-- ==== Sys2Proof/Word.lean ====
section
/-! DEFINITION. The word types of the CHIP-8 core (spec 00 R9, R13): every value is unsigned, bit 0 is the least significant. -/

namespace Sys2Proof

/-- One byte: a general register, a timer, a memory cell, an 8-bit immediate, a key number (R9, R20, R25, R27). -/
abbrev Byte := BitVec 8

/-- A 16-bit word: an opcode, the program counter, the index register, a stack entry (R9, R80). -/
abbrev Word := BitVec 16

/-- A register number 0 to 15, as the 4-bit opcode fields x and y give it (R81, R83). -/
abbrev Reg := BitVec 4

/-- A 4-bit operand that is no register number: the sprite height n of DXYN (R81, R83). -/
abbrev Nibble := BitVec 4

/-- A 12-bit absolute address as the opcode field nnn gives it (R81, R83). -/
abbrev Addr12 := BitVec 12

/-- The flag register's number: VF is `V[0xF]` (R21). -/
abbrev vf : Reg := 0xF#4

end Sys2Proof
end

