-- ==== Sys2Proof/Syntax.lean ====
section
/-! DEFINITION. The instruction set: one constructor per row of spec/opcode_table.json (spec 30 R84), with the operands the decoder hands over (R85). -/

namespace Sys2Proof

/-- The closed instruction set of 35 rows (30 R84). Names are the spec's variant names. -/
inductive Instr where
  /-- 00E0 CLS: clear the framebuffer (44 R200). -/
  | displayClear
  /-- 00EE RET: pop the program counter (41 R131). -/
  | subroutineReturn
  /-- 0NNN SYS nnn: always UnsupportedInstruction (41 R130). -/
  | system (nnn : Addr12)
  /-- 1NNN JP nnn (41 R132). -/
  | jump (nnn : Addr12)
  /-- 2NNN CALL nnn (41 R133). -/
  | subroutineCall (nnn : Addr12)
  /-- 3XNN SE Vx, nn (41 R134). -/
  | skipIfVxEqualsValue (x : Reg) (nn : Byte)
  /-- 4XNN SNE Vx, nn (41 R135). -/
  | skipIfVxNotEqualsValue (x : Reg) (nn : Byte)
  /-- 5XY0 SE Vx, Vy (41 R136). -/
  | skipIfVxEqualsVy (x y : Reg)
  /-- 6XNN LD Vx, nn (42 R150). -/
  | setRegisterWithValue (x : Reg) (nn : Byte)
  /-- 7XNN ADD Vx, nn (42 R151). -/
  | addValueToRegister (x : Reg) (nn : Byte)
  /-- 8XY0 LD Vx, Vy (42 R152). -/
  | setVxWithVy (x y : Reg)
  /-- 8XY1 OR Vx, Vy (42 R153). -/
  | orVxWithVy (x y : Reg)
  /-- 8XY2 AND Vx, Vy (42 R154). -/
  | andVxWithVy (x y : Reg)
  /-- 8XY3 XOR Vx, Vy (42 R155). -/
  | xorVxWithVy (x y : Reg)
  /-- 8XY4 ADD Vx, Vy (42 R156). -/
  | addVxWithVy (x y : Reg)
  /-- 8XY5 SUB Vx, Vy (42 R157). -/
  | subtractVxWithVy (x y : Reg)
  /-- 8XY6 SHR Vx, Vy (42 R158). -/
  | shift1RightVxWithVy (x y : Reg)
  /-- 8XY7 SUBN Vx, Vy (42 R159). -/
  | subtractVyWithVx (x y : Reg)
  /-- 8XYE SHL Vx, Vy (42 R160). -/
  | shift1LeftVxWithVy (x y : Reg)
  /-- 9XY0 SNE Vx, Vy (41 R137). -/
  | skipIfVxNotEqualsVy (x y : Reg)
  /-- ANNN LD I, nnn (43 R180). -/
  | setIndex (nnn : Addr12)
  /-- BNNN JP V0, nnn: the decoder hands over `x`, which is the top nibble of `nnn` (30 R82, 41 R138). -/
  | jumpWithOffset (x : Reg) (nnn : Addr12)
  /-- CXNN RND Vx, nn (45 R220). -/
  | random (x : Reg) (nn : Byte)
  /-- DXYN DRW Vx, Vy, n (44 R201). -/
  | displayDraw (x y : Reg) (n : Nibble)
  /-- EX9E SKP Vx (46 R240). -/
  | skipIfKeyPressed (x : Reg)
  /-- EXA1 SKNP Vx (46 R241). -/
  | skipIfKeyNotPressed (x : Reg)
  /-- FX07 LD Vx, DT (45 R221). -/
  | getDelayTimer (x : Reg)
  /-- FX0A LD Vx, K (46 R242). -/
  | waitForKey (x : Reg)
  /-- FX15 LD DT, Vx (45 R222). -/
  | setDelayTimer (x : Reg)
  /-- FX18 LD ST, Vx (45 R223). -/
  | setSoundTimer (x : Reg)
  /-- FX1E ADD I, Vx (43 R181). -/
  | addToIndex (x : Reg)
  /-- FX29 LD F, Vx (43 R182). -/
  | setIndexToCharacter (x : Reg)
  /-- FX33 LD B, Vx (43 R183). -/
  | storeBcd (x : Reg)
  /-- FX55 LD [I], Vx (43 R184). -/
  | storeRegisters (x : Reg)
  /-- FX65 LD Vx, [I] (43 R185). -/
  | loadRegisters (x : Reg)
  deriving DecidableEq, Repr

end Sys2Proof
end

