-- ==== Sys2Proof/WellFormed.lean ====
section
/-! DEFINITION. Which terms of `Instr` are instructions of the hardware: those the decoder can hand over (spec 30 R85, R87). -/

namespace Sys2Proof

/-- The words 0x00E0 and 0x00EE belong to the two FIXED rows, never to System (30 R84, R87). -/
abbrev systemOperandOk (nnn : Addr12) : Bool := nnn != 0x0E0#12 && nnn != 0x0EE#12

/-- In BNNN the register number is the top nibble of the address (30 R82, 41 R138). -/
abbrev jumpOperandOk (x : Reg) (nnn : Addr12) : Bool := x == nnn.extractLsb' 8 4

/-- An instruction the encoding can express. Operand widths are in the types; two rows carry a check. -/
def Instr.wf : Instr → Bool
  | .displayClear => true
  | .subroutineReturn => true
  | .system nnn => systemOperandOk nnn
  | .jump _ => true
  | .subroutineCall _ => true
  | .skipIfVxEqualsValue _ _ => true
  | .skipIfVxNotEqualsValue _ _ => true
  | .skipIfVxEqualsVy _ _ => true
  | .setRegisterWithValue _ _ => true
  | .addValueToRegister _ _ => true
  | .setVxWithVy _ _ => true
  | .orVxWithVy _ _ => true
  | .andVxWithVy _ _ => true
  | .xorVxWithVy _ _ => true
  | .addVxWithVy _ _ => true
  | .subtractVxWithVy _ _ => true
  | .shift1RightVxWithVy _ _ => true
  | .subtractVyWithVx _ _ => true
  | .shift1LeftVxWithVy _ _ => true
  | .skipIfVxNotEqualsVy _ _ => true
  | .setIndex _ => true
  | .jumpWithOffset x nnn => jumpOperandOk x nnn
  | .random _ _ => true
  | .displayDraw _ _ _ => true
  | .skipIfKeyPressed _ => true
  | .skipIfKeyNotPressed _ => true
  | .getDelayTimer _ => true
  | .waitForKey _ => true
  | .setDelayTimer _ => true
  | .setSoundTimer _ => true
  | .addToIndex _ => true
  | .setIndexToCharacter _ => true
  | .storeBcd _ => true
  | .storeRegisters _ => true
  | .loadRegisters _ => true

end Sys2Proof
end

