-- ==== Sys2Proof/Decode.lean ====
section
/-! DEFINITION. The Opcode Splitter and the Instruction Decoder (spec 30 R81, R84 to R87), total on all 65536 words, and after them the encoder and the opcode map's rows. -/

namespace Sys2Proof

/-- Why decoding fails; the only reason is the spec's (30 R84, 60 R261). -/
inductive DecodeError where
  /-- No row of the opcode map matches the word (R86). -/
  | unknownOpcode (op : Word)
  deriving DecidableEq, Repr

/-- The six named fields of a word (R81). They overlap. -/
structure Fields where
  i : Nibble
  x : Reg
  y : Reg
  n : Nibble
  nn : Byte
  nnn : Addr12
  deriving DecidableEq, Repr

/-- The Opcode Splitter, a pure function without error cases (R81). -/
def splitOpcode (op : Word) : Fields where
  i := op.extractLsb' 12 4
  x := op.extractLsb' 8 4
  y := op.extractLsb' 4 4
  n := op.extractLsb' 0 4
  nn := op.extractLsb' 0 8
  nnn := op.extractLsb' 0 12

/-- The rows under i = 8, by the function code n (R84, R85). -/
def decodeAlu (op : Word) (x y : Reg) (n : Nibble) : Except DecodeError Instr :=
  if n = 0x0#4 then .ok (.setVxWithVy x y)
  else if n = 0x1#4 then .ok (.orVxWithVy x y)
  else if n = 0x2#4 then .ok (.andVxWithVy x y)
  else if n = 0x3#4 then .ok (.xorVxWithVy x y)
  else if n = 0x4#4 then .ok (.addVxWithVy x y)
  else if n = 0x5#4 then .ok (.subtractVxWithVy x y)
  else if n = 0x6#4 then .ok (.shift1RightVxWithVy x y)
  else if n = 0x7#4 then .ok (.subtractVyWithVx x y)
  else if n = 0xE#4 then .ok (.shift1LeftVxWithVy x y)
  else .error (.unknownOpcode op)

/-- The rows under i = 0xE, by the function code nn (R84, R85). -/
def decodeKeySkip (op : Word) (x : Reg) (nn : Byte) : Except DecodeError Instr :=
  if nn = 0x9E#8 then .ok (.skipIfKeyPressed x)
  else if nn = 0xA1#8 then .ok (.skipIfKeyNotPressed x)
  else .error (.unknownOpcode op)

/-- The rows under i = 0xF, by the function code nn (R84, R85). -/
def decodeMisc (op : Word) (x : Reg) (nn : Byte) : Except DecodeError Instr :=
  if nn = 0x07#8 then .ok (.getDelayTimer x)
  else if nn = 0x0A#8 then .ok (.waitForKey x)
  else if nn = 0x15#8 then .ok (.setDelayTimer x)
  else if nn = 0x18#8 then .ok (.setSoundTimer x)
  else if nn = 0x1E#8 then .ok (.addToIndex x)
  else if nn = 0x29#8 then .ok (.setIndexToCharacter x)
  else if nn = 0x33#8 then .ok (.storeBcd x)
  else if nn = 0x55#8 then .ok (.storeRegisters x)
  else if nn = 0x65#8 then .ok (.loadRegisters x)
  else .error (.unknownOpcode op)

/-- The rows after the two FIXED ones, by the major opcode i, in the order of R85. -/
def decodeByMajor (op : Word) (f : Fields) : Except DecodeError Instr :=
  if f.i = 0x0#4 then .ok (.system f.nnn)
  else if f.i = 0x1#4 then .ok (.jump f.nnn)
  else if f.i = 0x2#4 then .ok (.subroutineCall f.nnn)
  else if f.i = 0x3#4 then .ok (.skipIfVxEqualsValue f.x f.nn)
  else if f.i = 0x4#4 then .ok (.skipIfVxNotEqualsValue f.x f.nn)
  else if f.i = 0x5#4 then
    if f.n = 0x0#4 then .ok (.skipIfVxEqualsVy f.x f.y) else .error (.unknownOpcode op)
  else if f.i = 0x6#4 then .ok (.setRegisterWithValue f.x f.nn)
  else if f.i = 0x7#4 then .ok (.addValueToRegister f.x f.nn)
  else if f.i = 0x8#4 then decodeAlu op f.x f.y f.n
  else if f.i = 0x9#4 then
    if f.n = 0x0#4 then .ok (.skipIfVxNotEqualsVy f.x f.y) else .error (.unknownOpcode op)
  else if f.i = 0xA#4 then .ok (.setIndex f.nnn)
  else if f.i = 0xB#4 then .ok (.jumpWithOffset f.x f.nnn)
  else if f.i = 0xC#4 then .ok (.random f.x f.nn)
  else if f.i = 0xD#4 then .ok (.displayDraw f.x f.y f.n)
  else if f.i = 0xE#4 then decodeKeySkip op f.x f.nn
  else decodeMisc op f.x f.nn

/-- The Instruction Decoder (R85): the FIXED words first, then the major opcode. It reads no state and no configuration. -/
def decode (op : Word) : Except DecodeError Instr :=
  if op = 0x00E0#16 then .ok .displayClear
  else if op = 0x00EE#16 then .ok .subroutineReturn
  else decodeByMajor op (splitOpcode op)

/-- The word two consecutive bytes make: the byte at the lower address holds bits 15:8 (20 R53). -/
def assembleWord (first second : Byte) : Word := first ++ second

/-- The byte of a word that lies at the lower address (20 R53). -/
def highByte (op : Word) : Byte := op.extractLsb' 8 8

/-- The byte of a word that lies at the higher address (20 R53). -/
def lowByte (op : Word) : Byte := op.extractLsb' 0 8

/-- The word of an instruction, from the formats and patterns of R82 and R84. -/
def encode : Instr → Word
  | .displayClear => 0x00E0#16
  | .subroutineReturn => 0x00EE#16
  | .system nnn => 0x0#4 ++ nnn
  | .jump nnn => 0x1#4 ++ nnn
  | .subroutineCall nnn => 0x2#4 ++ nnn
  | .skipIfVxEqualsValue x nn => 0x3#4 ++ x ++ nn
  | .skipIfVxNotEqualsValue x nn => 0x4#4 ++ x ++ nn
  | .skipIfVxEqualsVy x y => 0x5#4 ++ x ++ y ++ 0x0#4
  | .setRegisterWithValue x nn => 0x6#4 ++ x ++ nn
  | .addValueToRegister x nn => 0x7#4 ++ x ++ nn
  | .setVxWithVy x y => 0x8#4 ++ x ++ y ++ 0x0#4
  | .orVxWithVy x y => 0x8#4 ++ x ++ y ++ 0x1#4
  | .andVxWithVy x y => 0x8#4 ++ x ++ y ++ 0x2#4
  | .xorVxWithVy x y => 0x8#4 ++ x ++ y ++ 0x3#4
  | .addVxWithVy x y => 0x8#4 ++ x ++ y ++ 0x4#4
  | .subtractVxWithVy x y => 0x8#4 ++ x ++ y ++ 0x5#4
  | .shift1RightVxWithVy x y => 0x8#4 ++ x ++ y ++ 0x6#4
  | .subtractVyWithVx x y => 0x8#4 ++ x ++ y ++ 0x7#4
  | .shift1LeftVxWithVy x y => 0x8#4 ++ x ++ y ++ 0xE#4
  | .skipIfVxNotEqualsVy x y => 0x9#4 ++ x ++ y ++ 0x0#4
  | .setIndex nnn => 0xA#4 ++ nnn
  | .jumpWithOffset _ nnn => 0xB#4 ++ nnn
  | .random x nn => 0xC#4 ++ x ++ nn
  | .displayDraw x y n => 0xD#4 ++ x ++ y ++ n
  | .skipIfKeyPressed x => 0xE#4 ++ x ++ 0x9E#8
  | .skipIfKeyNotPressed x => 0xE#4 ++ x ++ 0xA1#8
  | .getDelayTimer x => 0xF#4 ++ x ++ 0x07#8
  | .waitForKey x => 0xF#4 ++ x ++ 0x0A#8
  | .setDelayTimer x => 0xF#4 ++ x ++ 0x15#8
  | .setSoundTimer x => 0xF#4 ++ x ++ 0x18#8
  | .addToIndex x => 0xF#4 ++ x ++ 0x1E#8
  | .setIndexToCharacter x => 0xF#4 ++ x ++ 0x29#8
  | .storeBcd x => 0xF#4 ++ x ++ 0x33#8
  | .storeRegisters x => 0xF#4 ++ x ++ 0x55#8
  | .loadRegisters x => 0xF#4 ++ x ++ 0x65#8

/-- A row of the opcode map: a word matches it when `(op AND mask) = pattern` (R84). -/
structure OpcodeRow where
  mask : Word
  pattern : Word
  deriving DecidableEq, Repr

/-- The row of the opcode map an instruction stands in, mask and match as the map of R84 prints them. -/
def Instr.row : Instr → OpcodeRow
  | .displayClear => ⟨0xFFFF#16, 0x00E0#16⟩
  | .subroutineReturn => ⟨0xFFFF#16, 0x00EE#16⟩
  | .system _ => ⟨0xF000#16, 0x0000#16⟩
  | .jump _ => ⟨0xF000#16, 0x1000#16⟩
  | .subroutineCall _ => ⟨0xF000#16, 0x2000#16⟩
  | .skipIfVxEqualsValue _ _ => ⟨0xF000#16, 0x3000#16⟩
  | .skipIfVxNotEqualsValue _ _ => ⟨0xF000#16, 0x4000#16⟩
  | .skipIfVxEqualsVy _ _ => ⟨0xF00F#16, 0x5000#16⟩
  | .setRegisterWithValue _ _ => ⟨0xF000#16, 0x6000#16⟩
  | .addValueToRegister _ _ => ⟨0xF000#16, 0x7000#16⟩
  | .setVxWithVy _ _ => ⟨0xF00F#16, 0x8000#16⟩
  | .orVxWithVy _ _ => ⟨0xF00F#16, 0x8001#16⟩
  | .andVxWithVy _ _ => ⟨0xF00F#16, 0x8002#16⟩
  | .xorVxWithVy _ _ => ⟨0xF00F#16, 0x8003#16⟩
  | .addVxWithVy _ _ => ⟨0xF00F#16, 0x8004#16⟩
  | .subtractVxWithVy _ _ => ⟨0xF00F#16, 0x8005#16⟩
  | .shift1RightVxWithVy _ _ => ⟨0xF00F#16, 0x8006#16⟩
  | .subtractVyWithVx _ _ => ⟨0xF00F#16, 0x8007#16⟩
  | .shift1LeftVxWithVy _ _ => ⟨0xF00F#16, 0x800E#16⟩
  | .skipIfVxNotEqualsVy _ _ => ⟨0xF00F#16, 0x9000#16⟩
  | .setIndex _ => ⟨0xF000#16, 0xA000#16⟩
  | .jumpWithOffset _ _ => ⟨0xF000#16, 0xB000#16⟩
  | .random _ _ => ⟨0xF000#16, 0xC000#16⟩
  | .displayDraw _ _ _ => ⟨0xF000#16, 0xD000#16⟩
  | .skipIfKeyPressed _ => ⟨0xF0FF#16, 0xE09E#16⟩
  | .skipIfKeyNotPressed _ => ⟨0xF0FF#16, 0xE0A1#16⟩
  | .getDelayTimer _ => ⟨0xF0FF#16, 0xF007#16⟩
  | .waitForKey _ => ⟨0xF0FF#16, 0xF00A#16⟩
  | .setDelayTimer _ => ⟨0xF0FF#16, 0xF015#16⟩
  | .setSoundTimer _ => ⟨0xF0FF#16, 0xF018#16⟩
  | .addToIndex _ => ⟨0xF0FF#16, 0xF01E#16⟩
  | .setIndexToCharacter _ => ⟨0xF0FF#16, 0xF029#16⟩
  | .storeBcd _ => ⟨0xF0FF#16, 0xF033#16⟩
  | .storeRegisters _ => ⟨0xF0FF#16, 0xF055#16⟩
  | .loadRegisters _ => ⟨0xF0FF#16, 0xF065#16⟩

/-- The word whose low `nbits` bits are those of `w` and whose other bits are 0 (the opcode table's numbering; every row has 16). -/
def tableWord (nbits w : Nat) : Word := BitVec.ofNat 16 (w % 2 ^ nbits)

/-- What the decoder reads from the instruction whose bits are `w` in the opcode table's numbering: the word is laid out as the
hardware stores it (20 R53), assembled again and decoded. -/
def decodeTableWord (nbits w : Nat) : Option Instr :=
  match decode (assembleWord (highByte (tableWord nbits w)) (lowByte (tableWord nbits w))) with
  | .ok i => some i
  | .error _ => none

end Sys2Proof
end

