-- ==== Sys2Proof/Config.lean ====
section
/-! DEFINITION. What is fixed at construction (spec 00 R10, R11; 10 R31) and the free values: the toggles' supplied values (D28), the draws of CXNN (45 R220, D14) and the order in which the agents act (00 R6, D21). -/

namespace Sys2Proof.Machine

/-- The interface operations (R5). Each is one atomic transition (R6). -/
inductive Operation where
  /-- `step_instruction()` (R110). -/
  | stepInstruction
  /-- `tick_timer()` (R276). -/
  | tickTimer
  /-- `press_key(k)` (R274). -/
  | pressKey (k : Byte)
  /-- `release_key(k)` (R275). -/
  | releaseKey (k : Byte)
  /-- `load(rom)` (R301). -/
  | load (rom : List Byte)
  /-- `reset()` (R300). -/
  | reset
  /-- read `framebuffer` (R202). -/
  | readFramebuffer
  deriving DecidableEq, Repr, Inhabited

end Sys2Proof.Machine

namespace Sys2Proof

/-- The compatibility configuration (R10) and the two parameters the spec adds (R11). It is supplied at construction and no
operation changes it (R31). DESIGN CHOICE (safe, log entry 1): the model carries it in `State.cfg`, because `step` and `exec`
take no other argument, so a statement about every state is a statement about every configuration. -/
structure Config where
  /-- 8XY6, 8XYE: true shifts `V[x]` in place, false first takes `V[y]` (R10, R158, R160). -/
  shiftIgnoresVy : Bool
  /-- BNNN: true adds `V[x]`, false adds `V[0]` (R10, R138). -/
  jumpReadsFromVx : Bool
  /-- FX1E: true sets VF on overflow, false ignores it (R10, R181). -/
  addToIndexStoresOverflow : Bool
  /-- FX55, FX65: true advances I by x + 1, false leaves it (R10, R184, R185). -/
  storeLoadModifiesI : Bool
  /-- `STACK_DEPTH`: how many return addresses the stack holds; `none` is unbounded (R11, D9). -/
  stackDepth : Option Nat
  /-- `ADDI_OVF_AT_1000`: whether FX1E counts the sum 0x1000 exactly as an overflow (R11, D10). -/
  addiOvfAt1000 : Bool
  deriving DecidableEq, Repr

/-- FREE VALUE (log entry 1): `shift_ignores_vy` as supplied at construction; the spec gives no default (R10, D28). -/
opaque Config.suppliedShiftIgnoresVy : Bool

/-- FREE VALUE (log entry 1): `jump_reads_from_vx` as supplied at construction; the spec gives no default (R10, D28). -/
opaque Config.suppliedJumpReadsFromVx : Bool

/-- FREE VALUE (log entry 1): `add_to_index_stores_overflow` as supplied at construction; no default (R10, D28). -/
opaque Config.suppliedAddToIndexStoresOverflow : Bool

/-- FREE VALUE (log entry 1): `store_load_modifies_i` as supplied at construction; no default (R10, D28). -/
opaque Config.suppliedStoreLoadModifiesI : Bool

/-- FREE VALUE (log entry 3): the byte `draw8()` supplies from outside the core, under no law (R14, R220, D14). The argument
is the number of draws made before, so that every execution of CXNN has a fresh byte. -/
opaque Config.draw8 : Nat → Byte

/-- FREE VALUE (log entry 4): which operation an agent issues next, where no request is listed. Any agent may act next, so any
interleaving, an endless one too, is a value of it (R6, D21). The argument is the number of operations it has given before. -/
opaque Config.arrival : Nat → Machine.Operation

end Sys2Proof
end

