-- ==== Sys2Proof/Machine/ResetContents.lean ====
section
/-! DEFINITION. What construction and reset put in place: the font, the memory contents after reset, the supplied configuration (spec 20 R52; 70 R300, R302; 00 R10, R11). -/

namespace Sys2Proof.Machine

/-- The font table `FONT[0..79]`, five bytes a character, characters 0 to F in order (R52). PRESUMED by the spec itself (general
knowledge, D23; log entry 8): the source fixes only the table's size and place. -/
def font : List Byte :=
  [0xF0, 0x90, 0x90, 0x90, 0xF0, 0x20, 0x60, 0x20, 0x20, 0x70, 0xF0, 0x10, 0xF0, 0x80, 0xF0, 0xF0, 0x10, 0xF0, 0x10, 0xF0]
  ++ [0x90, 0x90, 0xF0, 0x10, 0x10, 0xF0, 0x80, 0xF0, 0x10, 0xF0, 0xF0, 0x80, 0xF0, 0x90, 0xF0, 0xF0, 0x10, 0x20, 0x40, 0x40]
  ++ [0xF0, 0x90, 0xF0, 0x90, 0xF0, 0xF0, 0x90, 0xF0, 0x10, 0xF0, 0xF0, 0x90, 0xF0, 0x90, 0x90, 0xE0, 0x90, 0xE0, 0x90, 0xE0]
  ++ [0xF0, 0x80, 0x80, 0x80, 0xF0, 0xE0, 0x90, 0x90, 0x90, 0xE0, 0xF0, 0x80, 0xF0, 0x80, 0xF0, 0xF0, 0x80, 0xF0, 0x80, 0x80]

/-- `FONT_BASE` (R9). -/
def fontBase : Nat := 0x050

/-- `FONT_GLYPH_BYTES` (R9). -/
def glyphBytes : Nat := 5

/-- `MEM_SIZE` (R9, R50). -/
def memSize : Nat := 0x1000

/-- `PROGRAM_BASE` (R9, R51). -/
def programBase : Nat := 0x200

/-- `MAX_ROM` (R9): what fits from `PROGRAM_BASE` to the end of memory. -/
def maxRom : Nat := 3584

/-- What memory holds at an address after `reset()`: the font in the font region, 0 elsewhere (R300, R33). It is also what an
address reads as that `State.memory` does not list (log entry 9). -/
def resetByte (a : Nat) : Byte :=
  if fontBase ≤ a then font.getD (a - fontBase) 0#8 else 0#8

/-- The configuration supplied at construction (R302). The four toggles are free values (R10, D28; log entry 1); the two
parameters have the spec's defaults, unbounded and true (R11; log entry 2). -/
def constructionConfig : Config where
  shiftIgnoresVy := Config.suppliedShiftIgnoresVy
  jumpReadsFromVx := Config.suppliedJumpReadsFromVx
  addToIndexStoresOverflow := Config.suppliedAddToIndexStoresOverflow
  storeLoadModifiesI := Config.suppliedStoreLoadModifiesI
  stackDepth := none
  addiOvfAt1000 := true

end Sys2Proof.Machine
end

