-- ==== Sys2Proof/Machine/State.lean ====
section
/-! DEFINITION. The state of the CHIP-8 core as plain data (spec 10 R20 to R37), the errors and results of its operations (60 R260), the reasons to stop, and the state after reset (10 R33, 70 R300). -/

namespace Sys2Proof.Machine

/-- RAM of 4096 bytes (R27, R50) as (address, byte) pairs in canonical form: addresses strictly rising and below 0x1000, and no
entry equal to what an unlisted address reads as, `resetByte` (log entry 9). -/
abbrev Memory := List Host.Cell

/-- The framebuffer: 32 rows of 64 pixels, `fb[y][x]` (R28). -/
abbrev Framebuffer := Vector (Vector Bool 64) 32

/-- The execution state `xs` (R30). -/
inductive ExecState where
  /-- Instructions are stepped. -/
  | ready
  /-- An FX0A waits for a key release to write register `r`. -/
  | waitingForKey (r : Reg)
  deriving DecidableEq, Repr

/-- The error values an operation may hand to its caller, `MemoryOutOfRange` excepted, which stops the model (`Fault`); R260. -/
inductive Error where
  /-- `DecodeError::UnknownOpcode` with the word (R261). -/
  | unknownOpcode (op : Word)
  /-- `ExecuteError::UnsupportedInstruction` with the decoded instruction, always a System (R262). -/
  | unsupportedInstruction (i : Instr)
  /-- `ExecuteError::InvalidKey` with the 8-bit value (R263). -/
  | invalidKey (k : Byte)
  /-- `ExecuteError::StackUnderflow` (R264). -/
  | stackUnderflow
  /-- `StackOverflow`, only under a finite `STACK_DEPTH` (R266). -/
  | stackOverflow
  /-- `LoadError::RomTooLarge` with the ROM's length (R267). -/
  | romTooLarge (len : Nat)
  deriving DecidableEq, Repr

/-- The result value an interface operation hands to its caller (R5, R7, R268). -/
inductive OpResult where
  /-- The operation ended ok. -/
  | ok
  /-- The framebuffer read port's 32 x 64 pixel values (R5, R202). -/
  | pixels (fb : Framebuffer)
  /-- The operation met this error (R268). -/
  | error (e : Error)
  deriving DecidableEq, Repr

/-- All the state the spec gives the machine (R20 to R30), the configuration (R10, R11, R31) and the model's own four fields. -/
structure State where
  /-- The general registers `V[0]` to `V[15]`; `V[0xF]` is VF (R20, R21). -/
  V : Vector Byte 16
  /-- The index register `I` (R23). -/
  index : Word
  /-- The program counter (R22). -/
  pc : Word
  /-- The call stack, the most recently pushed value first (R24; log entry 10). -/
  stack : List Word
  /-- The delay timer `DT` (R25). -/
  delayTimer : Byte
  /-- The sound timer `ST` (R26). -/
  soundTimer : Byte
  /-- RAM (R27, R50). -/
  memory : Memory
  /-- The framebuffer (R28). -/
  framebuffer : Framebuffer
  /-- The key vector `key[0]` to `key[15]`, true is pressed (R29). -/
  keys : Vector Bool 16
  /-- The execution state (R30). -/
  xs : ExecState
  /-- The configuration, fixed at construction (R10, R11, R31; log entries 1 and 2). -/
  cfg : Config
  /-- MODEL'S OWN: how many bytes CXNN has drawn (R220, R32; log entry 3). -/
  draws : Nat
  /-- MODEL'S OWN: the operations the outside agents are known to issue next, oldest first; when none is listed the next one is the
  free value `Config.arrival arrivals` (R5, R6; log entry 4). -/
  requests : List Operation
  /-- MODEL'S OWN: how many operations the free value has given (R6; log entry 4). -/
  arrivals : Nat
  /-- MODEL'S OWN: what the last operation handed to its caller; nothing in the core reads it (R32, R268; log entry 5). -/
  result : OpResult
  deriving DecidableEq, Repr

/-- Reasons to stop. -/
inductive Fault where
  /-- `MemoryOutOfRange(addr)` (R56, R265): raised by the fetch and by DXYN, FX33, FX55, FX65, with the lowest out-of-range
  address and the state when it is reported (for a fetch nothing changed, else pc advanced by 2 and nothing else). The source
  calls it an implementation-defined failure, and the spec says a model should not continue stepping after it. SAFE: the model
  stops where the implementation may go on (log entry 7). -/
  | memoryOutOfRange (addr : Nat) (reported : State)
  deriving DecidableEq, Repr

/-- Reasons to give an instruction no meaning. -/
inductive Refusal where
  /-- The instruction has no meaning in this model yet; raised by exec's arm alone, and by none at present. SAFE. -/
  | notModelled (mnemonic : String)
  deriving DecidableEq, Repr

/-- The state after `reset()`, and so at construction (R33, R300, R302). The toggles are free values (log entry 1); the model's own
fields hold DESIGN CHOICE values (log entries 3, 4, 5). -/
def State.reset : State where
  V := Vector.replicate 16 0#8
  index := 0x0000#16
  pc := 0x0200#16
  stack := []
  delayTimer := 0x00#8
  soundTimer := 0x00#8
  memory := []
  framebuffer := Vector.replicate 32 (Vector.replicate 64 false)
  keys := Vector.replicate 16 false
  xs := .ready
  cfg := constructionConfig
  draws := 0
  requests := []
  arrivals := 0
  result := .ok

end Sys2Proof.Machine
end

