-- ==== Sys2Proof/Machine/Ops.lean ====
section
/-! DEFINITION. The named operations over registers, memory, stack, framebuffer and keys, the range check of memory accesses, and reporting an error (spec 00 R14; 20 R53 to R56; 60 R265, R268, R271). -/

namespace Sys2Proof.Machine

/-- What an operation of the machine answers. -/
abbrev Answer := Host.Outcome State Fault Refusal

/-! Registers (R14, R20 to R26, R30). -/

/-- `V[r]` (R14, R20). -/
def State.getV (s : State) (r : Reg) : Byte := s.V[r.toNat]'(r.isLt)

/-- `V[r] <- v` (R14, R20): no register is hardwired. -/
def State.setV (s : State) (r : Reg) (v : Byte) : State := { s with V := s.V.set r.toNat v r.isLt }

/-- All sixteen registers at once, as FX65 writes them (R185). -/
def State.setAllV (s : State) (v : Vector Byte 16) : State := { s with V := v }

/-- `pc <- target` (R14, R22). -/
def State.setPc (s : State) (target : Word) : State := { s with pc := target }

/-- `I <- v` (R14, R23). -/
def State.setIndex (s : State) (v : Word) : State := { s with index := v }

/-- The call stack is replaced (R24). -/
def State.setStack (s : State) (st : List Word) : State := { s with stack := st }

/-- `DT <- v` (R25). -/
def State.setDelay (s : State) (v : Byte) : State := { s with delayTimer := v }

/-- `ST <- v` (R26). -/
def State.setSound (s : State) (v : Byte) : State := { s with soundTimer := v }

/-- RAM is replaced (R27). -/
def State.setMemory (s : State) (m : Memory) : State := { s with memory := m }

/-- The framebuffer is replaced (R28). -/
def State.setFramebuffer (s : State) (fb : Framebuffer) : State := { s with framebuffer := fb }

/-- `key[k]` (R29). -/
def State.getKey (s : State) (k : Nibble) : Bool := s.keys[k.toNat]'(k.isLt)

/-- `key[k] <- b` (R29). -/
def State.setKey (s : State) (k : Nibble) (b : Bool) : State := { s with keys := s.keys.set k.toNat b k.isLt }

/-- `xs <- x` (R30). -/
def State.setXs (s : State) (x : ExecState) : State := { s with xs := x }

/-- The count of draws (log entry 3). -/
def State.setDraws (s : State) (n : Nat) : State := { s with draws := n }

/-- The operations known to come (log entry 4). -/
def State.setRequests (s : State) (rs : List Operation) : State := { s with requests := rs }

/-- The count of operations the free value has given (log entry 4). -/
def State.setArrivals (s : State) (n : Nat) : State := { s with arrivals := n }

/-- The result the operation hands to its caller (R268, log entry 5). -/
def State.setResult (s : State) (r : OpResult) : State := { s with result := r }

/-- `pc <- pc + 2`, 16 bits: the sequencer's advance (R113). -/
def State.advancePc (s : State) : State := s.setPc (s.pc + 2#16)

/-! Memory: one byte a time (R55), any address, no protection (R57). -/

/-- The byte at an address; an unlisted address reads as its reset content (log entry 9). -/
def Memory.read : Memory → Nat → Byte
  | [], a => resetByte a
  | (b, v) :: rest, a => if b = a then v else Memory.read rest a

/-- A new entry at its place in the rising order. -/
def Memory.insert : Memory → Nat → Byte → Memory
  | [], a, v => [(a, v)]
  | (b, u) :: rest, a, v => if a < b then (a, v) :: (b, u) :: rest else (b, u) :: Memory.insert rest a v

/-- Without any entry for the address. -/
def Memory.erase (m : Memory) (a : Nat) : Memory := m.filter (fun c => c.1 != a)

/-- `MemWrite(a, 1, v)` (R14), in canonical form: the value an unlisted address reads as leaves no entry. -/
def Memory.write (m : Memory) (a : Nat) (v : Byte) : Memory :=
  if v = resetByte a then m.erase a else (m.erase a).insert a v

/-- Bytes to ascending addresses, in order (R184, R301). -/
def Memory.writeBytes : Memory → Nat → List Byte → Memory
  | m, _, [] => m
  | m, a, v :: vs => Memory.writeBytes (m.write a v) (a + 1) vs

/-- The canonical form of memory: addresses strictly rising and inside RAM, no entry equal to what an unlisted address reads as. -/
def Memory.wf : Memory → Bool
  | [] => true
  | (a, v) :: rest => decide (a < memSize) && v != resetByte a && rest.all (fun c => decide (a < c.1)) && Memory.wf rest

/-- `MemRead(a, 1)` of a state (R14). -/
def State.readByte (s : State) (a : Nat) : Byte := s.memory.read a

/-- `MemRead(a, 2)`: the byte at the lower address is the more significant (R14, R53). -/
def State.readWord (s : State) (a : Nat) : Word := assembleWord (s.readByte a) (s.readByte (a + 1))

/-- The `n` bytes from `a` on lie wholly inside 0x000 to 0xFFF, as natural numbers without any wrap; an access of no byte always
does (R56, R201). -/
def accessOk (a n : Nat) : Bool := n == 0 || decide (a + n ≤ memSize)

/-- The lowest out-of-range address of an access that starts at `a` (R56, R112). -/
def outOfRangeAddr (a : Nat) : Nat := max a memSize

/-- The range check of a whole access before its first write (R56, R271): the operation goes on, or stops with
`MemoryOutOfRange` and the unchanged state (R265). -/
def guardAccess (a n : Nat) (s : State) (goOn : Answer) : Answer :=
  if accessOk a n then goOn else .fault (.memoryOutOfRange (outOfRangeAddr a) s)

/-- `MemRead(pc, 2)` (R112), if both bytes are in memory. -/
def State.fetch (s : State) : Option Word :=
  if accessOk s.pc.toNat 2 then some (s.readWord s.pc.toNat) else none

/-! Reporting an error: what stands in for taking an exception. -/

/-- `raise E` (R14, R268): the error is the result of the operation. Nothing is saved, no mode changes, control goes nowhere, and
the state is otherwise as it is (pc already advanced in decode and execute, R113). There is no return from an error: the next
step fetches at pc (R269, R120). DEDUCED (log entry 6). -/
def raise (e : Error) (s : State) : Answer := .next (s.setResult (.error e))

/-! Framebuffer (R28). -/

/-- `fb[y][x]`; false outside the screen, where no rule reads. -/
def Framebuffer.pixel (fb : Framebuffer) (y x : Nat) : Bool :=
  if h : y < 32 ∧ x < 64 then (fb[y]'h.1)[x]'h.2 else false

/-- `fb[y][x] <- b`; nothing outside the screen, where no rule writes. -/
def Framebuffer.setPixel (fb : Framebuffer) (y x : Nat) (b : Bool) : Framebuffer :=
  if h : y < 32 ∧ x < 64 then fb.set y ((fb[y]'h.1).set x b h.2) h.1 else fb

/-- Every pixel 0: the "framebuffer clear" primitive (R200, R300). -/
def clearedFramebuffer : Framebuffer := Vector.replicate 32 (Vector.replicate 64 false)

end Sys2Proof.Machine
end

