-- ==== Sys2Proof/Machine/Operands.lean ====
section
/-! DEFINITION. Every operand form of the instruction set: immediates, addresses, the shifted value, the base register, digits, glyph addresses, sprite coordinates (spec 30 R83; 40 R116; 43 R186). -/

namespace Sys2Proof.Machine

/-- `zext_16(nnn)`: an absolute address (R83). -/
def absoluteTarget (nnn : Addr12) : Word := nnn.setWidth 16

/-- The value a shift works on: `V[x]` in the modern setting, `V[y]` in the original one (R158, R160). -/
def shiftSource (x y : Reg) (s : State) : Byte := if s.cfg.shiftIgnoresVy then s.getV x else s.getV y

/-- The base register of BNNN (R138). -/
def jumpBase (x : Reg) (s : State) : Reg := if s.cfg.jumpReadsFromVx then x else 0#4

/-- The unwrapped sum of FX1E, a natural number (R181). -/
def indexSum (x : Reg) (s : State) : Nat := s.index.toNat + (s.getV x).toNat

/-- The address of the glyph of the character in the low nibble (R182). -/
def glyphAddress (v : Byte) : Word := BitVec.ofNat 16 (fontBase + glyphBytes * (v.extractLsb' 0 4).toNat)

/-- The address of the first byte of an `I`-relative access (R186). -/
def dataBase (s : State) : Nat := s.index.toNat

/-- How many registers FX55 and FX65 move: `V[0]` to `V[x]` (R184, R185). -/
def blockLength (x : Reg) : Nat := x.toNat + 1

/-- The three decimal digits of a byte, hundreds first (R183). -/
def bcdDigits (v : Byte) : List Byte := [v / 100#8, (v / 10#8) % 10#8, v % 10#8]

/-- The bytes of `V[0]` to `V[x]` in order (R184). -/
def blockBytes (x : Reg) (s : State) : List Byte := (List.range (blockLength x)).map (fun k => s.getV (BitVec.ofNat 4 k))

/-- The registers after `V[0]` to `V[x]` were read from ascending addresses (R185); the others keep their value. -/
def blockLoaded (x : Reg) (s : State) : Vector Byte 16 :=
  Vector.ofFn (fun k : Fin 16 => if k.val < blockLength x then s.readByte (dataBase s + k.val) else s.V[k.val])

/-- `I` after FX55 and FX65: `I + x + 1` with the toggle on, else unchanged (R184, R185). -/
def indexAfterBlock (x : Reg) (s : State) : Word :=
  if s.cfg.storeLoadModifiesI then s.index + BitVec.ofNat 16 (blockLength x) else s.index

/-- The column of a sprite's left edge (R201). -/
def spriteColumn (x : Reg) (s : State) : Nat := (s.getV x).toNat % 64

/-- The row of a sprite's top edge (R201). -/
def spriteRow (y : Reg) (s : State) : Nat := (s.getV y).toNat % 32

/-- How many rows of the sprite are drawn, and read: those above the bottom edge (R201, D16). -/
def spriteRows (y : Reg) (n : Nibble) (s : State) : Nat := min n.toNat (32 - spriteRow y s)

/-- A key number is valid when all eight bits of it are at most 15 (R240, R263). -/
def keyValid (k : Byte) : Bool := decide (k.toNat ≤ 15)

/-- The key a valid key number names (R240). -/
def keyOf (k : Byte) : Nibble := k.setWidth 4

end Sys2Proof.Machine
end

