-- ==== Sys2Proof/Machine/Flags.lean ====
section
/-! DEFINITION. Every flag computation, and the one way a flag is written: VF last (spec 10 R21; 40 R116; 42 R161). -/

namespace Sys2Proof.Machine

/-- The flag as a register value: 1 or 0 (R21). -/
def flagByte (b : Bool) : Byte := if b then 1#8 else 0#8

/-- Carry of the 8-bit sum: `a + b > 255` (R156, R161). -/
def carryOut (a b : Byte) : Bool := decide (a.toNat + b.toNat > 255)

/-- NOT borrow of `a - b`: `a >= b` (R157, R159, R161). -/
def noBorrow (a b : Byte) : Bool := decide (a.toNat ≥ b.toNat)

/-- The bit a right shift shifts out (R158). -/
def rightBitOut (v : Byte) : Bool := v.getLsbD 0

/-- The bit a left shift shifts out (R160). -/
def leftBitOut (v : Byte) : Bool := v.getLsbD 7

/-- Whether FX1E's unwrapped sum counts as an overflow that sets VF (R181, D10). -/
def indexOverflow (cfg : Config) (sum : Nat) : Bool :=
  cfg.addToIndexStoresOverflow && (decide (sum > 0x1000) || (decide (sum = 0x1000) && cfg.addiOvfAt1000))

/-- `VF <- b` (R21). -/
def State.setFlag (s : State) (b : Bool) : State := s.setV vf (flagByte b)

/-- The result to `V[x]` first and the flag to VF second, so that with x = 0xF the flag remains (R116, D4). -/
def State.setVFlag (s : State) (x : Reg) (v : Byte) (b : Bool) : State := (s.setV x v).setFlag b

end Sys2Proof.Machine
end

