-- ==== Sys2Proof/Machine/Alu.lean ====
section
/-! DEFINITION. Register file and ALU instructions (spec 42): 6XNN, 7XNN, 8XY0 to 8XY7, 8XYE. None touches anything but registers and none can raise an error. -/

namespace Sys2Proof.Machine

/-- A result to `V[x]` and no flag (R150 to R155). -/
def writeVx (x : Reg) (v : Byte) (s : State) : Answer := .next (s.setV x v)

/-- A result to `V[x]` and then the flag to VF (R116, R156 to R160). -/
def writeVxFlag (x : Reg) (v : Byte) (b : Bool) (s : State) : Answer := .next (s.setVFlag x v b)

/-- 6XNN (R150). -/
def execSetRegisterWithValue (x : Reg) (nn : Byte) (s : State) : Answer := writeVx x nn s

/-- 7XNN (R151): modulo 256, VF not written. -/
def execAddValueToRegister (x : Reg) (nn : Byte) (s : State) : Answer := writeVx x (s.getV x + nn) s

/-- 8XY0 (R152). -/
def execSetVxWithVy (x y : Reg) (s : State) : Answer := writeVx x (s.getV y) s

/-- 8XY1 (R153). -/
def execOrVxWithVy (x y : Reg) (s : State) : Answer := writeVx x (s.getV x ||| s.getV y) s

/-- 8XY2 (R154). -/
def execAndVxWithVy (x y : Reg) (s : State) : Answer := writeVx x (s.getV x &&& s.getV y) s

/-- 8XY3 (R155). -/
def execXorVxWithVy (x y : Reg) (s : State) : Answer := writeVx x (s.getV x ^^^ s.getV y) s

/-- 8XY4 (R156): sum modulo 256, VF = carry. -/
def execAddVxWithVy (x y : Reg) (s : State) : Answer :=
  writeVxFlag x (s.getV x + s.getV y) (carryOut (s.getV x) (s.getV y)) s

/-- 8XY5 (R157): `V[x] - V[y]` modulo 256, VF = no borrow. -/
def execSubtractVxWithVy (x y : Reg) (s : State) : Answer :=
  writeVxFlag x (s.getV x - s.getV y) (noBorrow (s.getV x) (s.getV y)) s

/-- 8XY6 (R158): logical shift right by one, VF = the bit shifted out. -/
def execShift1RightVxWithVy (x y : Reg) (s : State) : Answer :=
  writeVxFlag x (shiftSource x y s >>> 1) (rightBitOut (shiftSource x y s)) s

/-- 8XY7 (R159): `V[y] - V[x]` modulo 256 to `V[x]`, VF = no borrow. -/
def execSubtractVyWithVx (x y : Reg) (s : State) : Answer :=
  writeVxFlag x (s.getV y - s.getV x) (noBorrow (s.getV y) (s.getV x)) s

/-- 8XYE (R160): shift left by one, VF = the bit shifted out. -/
def execShift1LeftVxWithVy (x y : Reg) (s : State) : Answer :=
  writeVxFlag x (shiftSource x y s <<< 1) (leftBitOut (shiftSource x y s)) s

end Sys2Proof.Machine
end

