-- ==== Sys2Proof/Machine/Control.lean ====
section
/-! DEFINITION. System call and control flow (spec 41): 0NNN, 00EE, 1NNN, 2NNN, 3XNN, 4XNN, 5XY0, 9XY0, BNNN. In every meaning pc is already the instruction's address plus 2 (R113). -/

namespace Sys2Proof.Machine

/-- `if c: skip` (R139): pc passes over one more instruction, whose word is not looked at. -/
def skipIf (c : Bool) (s : State) : Answer := .next (s.setPc (if c then s.pc + 2#16 else s.pc))

/-- 0NNN (R130): always UnsupportedInstruction, carrying the instruction (R262). -/
def execSystem (nnn : Addr12) (s : State) : Answer := raise (.unsupportedInstruction (.system nnn)) s

/-- 00EE (R131): pop pc, or StackUnderflow on the empty stack (R264). -/
def execSubroutineReturn (s : State) : Answer :=
  match s.stack with
  | [] => raise .stackUnderflow s
  | target :: rest => .next ((s.setStack rest).setPc target)

/-- 1NNN (R132). -/
def execJump (nnn : Addr12) (s : State) : Answer := .next (s.setPc (absoluteTarget nnn))

/-- 2NNN (R133): push the advanced pc, or StackOverflow when the stack holds `STACK_DEPTH` values (R266). -/
def execSubroutineCall (nnn : Addr12) (s : State) : Answer :=
  if s.cfg.stackDepth = some s.stack.length then raise .stackOverflow s
  else .next ((s.setStack (s.pc :: s.stack)).setPc (absoluteTarget nnn))

/-- 3XNN (R134). -/
def execSkipIfVxEqualsValue (x : Reg) (nn : Byte) (s : State) : Answer := skipIf (s.getV x == nn) s

/-- 4XNN (R135). -/
def execSkipIfVxNotEqualsValue (x : Reg) (nn : Byte) (s : State) : Answer := skipIf (s.getV x != nn) s

/-- 5XY0 (R136). -/
def execSkipIfVxEqualsVy (x y : Reg) (s : State) : Answer := skipIf (s.getV x == s.getV y) s

/-- 9XY0 (R137). -/
def execSkipIfVxNotEqualsVy (x y : Reg) (s : State) : Answer := skipIf (s.getV x != s.getV y) s

/-- BNNN (R138): the whole nnn plus the base register, 16 bits, not reduced to 12 (D7). -/
def execJumpWithOffset (x : Reg) (nnn : Addr12) (s : State) : Answer :=
  .next (s.setPc (absoluteTarget nnn + (s.getV (jumpBase x s)).setWidth 16))

end Sys2Proof.Machine
end

