-- ==== Sys2Proof/Machine/Display.lean ====
section
/-! DEFINITION. Display instructions (spec 44): 00E0 and DXYN, written as the loops of R201. -/

namespace Sys2Proof.Machine

/-- What a draw works on: the framebuffer and whether a pixel went from set to unset so far (R201). -/
structure Canvas where
  fb : Framebuffer
  collision : Bool
  deriving DecidableEq, Repr

/-- One sprite bit on one pixel: a 1 bit toggles the pixel, and collides when the pixel was set (R201). -/
def plotBit (bit : Bool) (y x : Nat) (p : Canvas) : Canvas :=
  if bit then ⟨p.fb.setPixel y x (!p.fb.pixel y x), p.collision || p.fb.pixel y x⟩ else p

/-- The inner loop: left to right, bit 7 leftmost; at the right edge the rest of the row is not drawn (R201). -/
def drawColumns (b : Byte) (y x0 : Nat) : List Nat → Canvas → Canvas
  | [], p => p
  | c :: cs, p => if x0 + c > 63 then p else drawColumns b y x0 cs (plotBit (b.getLsbD (7 - c)) y (x0 + c) p)

/-- The outer loop: top to bottom, one byte a row from `a` on (R201). -/
def drawRows (m : Memory) (a y0 x0 : Nat) : List Nat → Canvas → Canvas
  | [], p => p
  | r :: rs, p => drawRows m a y0 x0 rs (drawColumns (m.read (a + r)) (y0 + r) x0 (List.range 8) p)

/-- The framebuffer and the collision after DXYN drew its rows, from a collision of false (R201). -/
def drawnCanvas (x y : Reg) (n : Nibble) (s : State) : Canvas :=
  drawRows s.memory (dataBase s) (spriteRow y s) (spriteColumn x s) (List.range (spriteRows y n s)) ⟨s.framebuffer, false⟩

/-- 00E0 (R200): every pixel 0, VF not written. -/
def execDisplayClear (s : State) : Answer := .next (s.setFramebuffer clearedFramebuffer)

/-- DXYN (R201): coordinates are read before VF is written; rows clipped at the bottom are not read and cannot fault (D16). -/
def execDisplayDraw (x y : Reg) (n : Nibble) (s : State) : Answer :=
  guardAccess (dataBase s) (spriteRows y n s) s
    (.next ((s.setFramebuffer (drawnCanvas x y n s).fb).setFlag (drawnCanvas x y n s).collision))

end Sys2Proof.Machine
end

