-- ==== Sys2Proof/Machine/IndexMemory.lean ====
section
/-! DEFINITION. Index register and memory instructions (spec 43): ANNN, FX1E, FX29, FX33, FX55, FX65. -/

namespace Sys2Proof.Machine

/-- ANNN (R180). -/
def execSetIndex (nnn : Addr12) (s : State) : Answer := .next (s.setIndex (absoluteTarget nnn))

/-- FX1E (R181): modulo 65536; VF is set on overflow when the toggle is on, and never cleared (D10). -/
def execAddToIndex (x : Reg) (s : State) : Answer :=
  .next ((s.setIndex (BitVec.ofNat 16 (indexSum x s))).setV vf
    (if indexOverflow s.cfg (indexSum x s) then 1#8 else s.getV vf))

/-- FX29 (R182): the glyph's address; memory is not read. -/
def execSetIndexToCharacter (x : Reg) (s : State) : Answer := .next (s.setIndex (glyphAddress (s.getV x)))

/-- Bytes stored at `I` and up, all checked before the first write (R56, R271). -/
def storeAtIndex (bytes : List Byte) (s : State) (after : State → State) : Answer :=
  guardAccess (dataBase s) bytes.length s (.next (after (s.setMemory (s.memory.writeBytes (dataBase s) bytes))))

/-- FX33 (R183): hundreds, tens, ones; `I` is not changed whatever the toggle is. -/
def execStoreBcd (x : Reg) (s : State) : Answer := storeAtIndex (bcdDigits (s.getV x)) s id

/-- FX55 (R184): `V[0]` to `V[x]` to ascending addresses; `I` advances by x + 1 when the toggle is on. -/
def execStoreRegisters (x : Reg) (s : State) : Answer :=
  storeAtIndex (blockBytes x s) s (fun t => t.setIndex (indexAfterBlock x s))

/-- FX65 (R185): `V[0]` to `V[x]` from ascending addresses; `I` advances by x + 1 when the toggle is on. -/
def execLoadRegisters (x : Reg) (s : State) : Answer :=
  guardAccess (dataBase s) (blockLength x) s (.next ((s.setAllV (blockLoaded x s)).setIndex (indexAfterBlock x s)))

end Sys2Proof.Machine
end

