-- ==== Sys2Proof/Machine/Keyboard.lean ====
section
/-! DEFINITION. Keyboard instructions (spec 46): EX9E, EXA1, FX0A. -/

namespace Sys2Proof.Machine

/-- EX9E (R240): the whole register is the key number; above 15 it is InvalidKey. -/
def execSkipIfKeyPressed (x : Reg) (s : State) : Answer :=
  if keyValid (s.getV x) then skipIf (s.getKey (keyOf (s.getV x))) s else raise (.invalidKey (s.getV x)) s

/-- EXA1 (R241). -/
def execSkipIfKeyNotPressed (x : Reg) (s : State) : Answer :=
  if keyValid (s.getV x) then skipIf (!s.getKey (keyOf (s.getV x))) s else raise (.invalidKey (s.getV x)) s

/-- FX0A (R242): the wait begins; no register is read or written. -/
def execWaitForKey (x : Reg) (s : State) : Answer := .next (s.setXs (.waitingForKey x))

end Sys2Proof.Machine
end

