-- ==== Sys2Proof/Machine/RandomTimers.lean ====
section
/-! DEFINITION. Random and timer instructions (spec 45): CXNN, FX07, FX15, FX18; and the countdown of one timer (60 R276). -/

namespace Sys2Proof.Machine

/-- CXNN (R220): a fresh draw, a free value (log entry 3), ANDed with nn. -/
def execRandom (x : Reg) (nn : Byte) (s : State) : Answer :=
  .next ((s.setV x (Config.draw8 s.draws &&& nn)).setDraws (s.draws + 1))

/-- FX07 (R221). -/
def execGetDelayTimer (x : Reg) (s : State) : Answer := .next (s.setV x s.delayTimer)

/-- FX15 (R222). -/
def execSetDelayTimer (x : Reg) (s : State) : Answer := .next (s.setDelay (s.getV x))

/-- FX18 (R223). -/
def execSetSoundTimer (x : Reg) (s : State) : Answer := .next (s.setSound (s.getV x))

/-- One tick of one timer: down by 1, and a timer at 0 stays 0 (R276). -/
def countdown (t : Byte) : Byte := if t.toNat > 0 then t - 1#8 else t

end Sys2Proof.Machine
end

