-- ==== Sys2Proof/Machine/Dispatch.lean ====
section
/-! DEFINITION. The Execution Engine's match: one arm per instruction (spec 40 R115), each one direct call of its meaning. -/

namespace Sys2Proof.Machine

/-- `execute(ins)` (R115): the state's pc is already the instruction's address plus 2 (R113). -/
def exec (i : Instr) (s : State) : Host.Outcome State Fault Refusal :=
  match i with
  | .displayClear => Sys2Proof.Machine.execDisplayClear s
  | .subroutineReturn => Sys2Proof.Machine.execSubroutineReturn s
  | .system nnn => Sys2Proof.Machine.execSystem nnn s
  | .jump nnn => Sys2Proof.Machine.execJump nnn s
  | .subroutineCall nnn => Sys2Proof.Machine.execSubroutineCall nnn s
  | .skipIfVxEqualsValue x nn => Sys2Proof.Machine.execSkipIfVxEqualsValue x nn s
  | .skipIfVxNotEqualsValue x nn => Sys2Proof.Machine.execSkipIfVxNotEqualsValue x nn s
  | .skipIfVxEqualsVy x y => Sys2Proof.Machine.execSkipIfVxEqualsVy x y s
  | .setRegisterWithValue x nn => Sys2Proof.Machine.execSetRegisterWithValue x nn s
  | .addValueToRegister x nn => Sys2Proof.Machine.execAddValueToRegister x nn s
  | .setVxWithVy x y => Sys2Proof.Machine.execSetVxWithVy x y s
  | .orVxWithVy x y => Sys2Proof.Machine.execOrVxWithVy x y s
  | .andVxWithVy x y => Sys2Proof.Machine.execAndVxWithVy x y s
  | .xorVxWithVy x y => Sys2Proof.Machine.execXorVxWithVy x y s
  | .addVxWithVy x y => Sys2Proof.Machine.execAddVxWithVy x y s
  | .subtractVxWithVy x y => Sys2Proof.Machine.execSubtractVxWithVy x y s
  | .shift1RightVxWithVy x y => Sys2Proof.Machine.execShift1RightVxWithVy x y s
  | .subtractVyWithVx x y => Sys2Proof.Machine.execSubtractVyWithVx x y s
  | .shift1LeftVxWithVy x y => Sys2Proof.Machine.execShift1LeftVxWithVy x y s
  | .skipIfVxNotEqualsVy x y => Sys2Proof.Machine.execSkipIfVxNotEqualsVy x y s
  | .setIndex nnn => Sys2Proof.Machine.execSetIndex nnn s
  | .jumpWithOffset x nnn => Sys2Proof.Machine.execJumpWithOffset x nnn s
  | .random x nn => Sys2Proof.Machine.execRandom x nn s
  | .displayDraw x y n => Sys2Proof.Machine.execDisplayDraw x y n s
  | .skipIfKeyPressed x => Sys2Proof.Machine.execSkipIfKeyPressed x s
  | .skipIfKeyNotPressed x => Sys2Proof.Machine.execSkipIfKeyNotPressed x s
  | .getDelayTimer x => Sys2Proof.Machine.execGetDelayTimer x s
  | .waitForKey x => Sys2Proof.Machine.execWaitForKey x s
  | .setDelayTimer x => Sys2Proof.Machine.execSetDelayTimer x s
  | .setSoundTimer x => Sys2Proof.Machine.execSetSoundTimer x s
  | .addToIndex x => Sys2Proof.Machine.execAddToIndex x s
  | .setIndexToCharacter x => Sys2Proof.Machine.execSetIndexToCharacter x s
  | .storeBcd x => Sys2Proof.Machine.execStoreBcd x s
  | .storeRegisters x => Sys2Proof.Machine.execStoreRegisters x s
  | .loadRegisters x => Sys2Proof.Machine.execLoadRegisters x s

end Sys2Proof.Machine
end

