-- ==== Sys2Proof/Machine/Sequencer.lean ====
section
/-! DEFINITION. `step_instruction()`: the instruction-step sequencer (spec 40 R110 to R115). -/

namespace Sys2Proof.Machine

/-- Decode and execute a fetched word, pc already advanced (R114, R115): an unknown word ends with UnknownOpcode (R261). -/
def decodeAndExecute (op : Word) (s : State) : Answer :=
  match decode op with
  | .error (.unknownOpcode w) => raise (.unknownOpcode w) s
  | .ok i => exec i s

/-- `step_instruction()` (R110): nothing while waiting for a key (R111); fetch, or MemoryOutOfRange with pc not advanced (R112);
advance before decode (R113); decode; execute. The value of DT has no effect on it (R118). -/
def stepInstruction (s : State) : Answer :=
  match s.xs with
  | .waitingForKey _ => .next s
  | .ready =>
    match s.fetch with
    | none => .fault (.memoryOutOfRange (outOfRangeAddr s.pc.toNat) s)
    | some op => decodeAndExecute op s.advancePc

end Sys2Proof.Machine
end

