-- ==== Sys2Proof/Machine/Interface.lean ====
section
/-! DEFINITION. The interface operations besides `step_instruction()` (spec 00 R5; 44 R202; 60 R274 to R276; 70 R300, R301), and which operation comes next (00 R6). -/

namespace Sys2Proof.Machine

/-- `tick_timer()` (R276): both timers count down independently; the same in both execution states. -/
def tickTimer (s : State) : Answer := .next ((s.setDelay (countdown s.delayTimer)).setSound (countdown s.soundTimer))

/-- `press_key(k)` (R274): it never ends a wait. -/
def pressKey (k : Byte) (s : State) : Answer :=
  if keyValid k then .next (s.setKey (keyOf k) true) else raise (.invalidKey k) s

/-- The end of a key wait: the released key's number to the waiting register, and Ready (R275). -/
def resolveWait (k : Byte) (s : State) : State :=
  match s.xs with
  | .ready => s
  | .waitingForKey r => (s.setV r k).setXs .ready

/-- `release_key(k)` (R275): the flag is cleared and a wait is resolved; an invalid key changes nothing. -/
def releaseKey (k : Byte) (s : State) : Answer :=
  if keyValid k then .next (resolveWait k (s.setKey (keyOf k) false)) else raise (.invalidKey k) s

/-- The state `reset()` leaves (R300): every element of the machine at its reset value, the configuration unchanged (R31). What
belongs to the outside world, the draws made, the operations to come and their count, and the result, is no element of the machine and is kept
(log entry 18). -/
def resetState (s : State) : State :=
  { State.reset with cfg := s.cfg, draws := s.draws, requests := s.requests, arrivals := s.arrivals, result := s.result }

/-- `reset()` (R300); it cannot fail. -/
def resetMachine (s : State) : Answer := .next (resetState s)

/-- `load(rom)` (R301): the size check first, then reset, then the bytes in order from 0x200. -/
def loadRom (rom : List Byte) (s : State) : Answer :=
  if rom.length > maxRom then raise (.romTooLarge rom.length) s
  else .next ((resetState s).setMemory ((resetState s).memory.writeBytes programBase rom))

/-- The framebuffer read port (R202): the pixels are the result, and the core is not changed. -/
def readFramebuffer (s : State) : Answer := .next (s.setResult (.pixels s.framebuffer))

/-- One interface operation, one atomic transition (R5, R6). -/
def perform (op : Operation) (s : State) : Answer :=
  match op with
  | .stepInstruction => stepInstruction s
  | .tickTimer => tickTimer s
  | .pressKey k => pressKey k s
  | .releaseKey k => releaseKey k s
  | .load rom => loadRom rom s
  | .reset => resetMachine s
  | .readFramebuffer => readFramebuffer s

/-- The operation that comes next: the oldest request listed, or, where none is, whichever operation an agent issues, a free value:
any agent may act next (R6, D21; log entry 4). -/
def nextOperation (s : State) : Operation :=
  match s.requests with
  | [] => Config.arrival s.arrivals
  | op :: _ => op

/-- The count of operations the free value has given, once the next operation is taken (log entry 4). -/
def nextArrivals (s : State) : Nat :=
  match s.requests with
  | [] => s.arrivals + 1
  | _ :: _ => s.arrivals

/-- The state an operation begins in: it is taken from the list or from the free value, and the result is ok unless the operation
reports an error (R268). -/
def beginOperation (s : State) : State :=
  ((s.setRequests s.requests.tail).setArrivals (nextArrivals s)).setResult .ok

end Sys2Proof.Machine
end

