-- ==== Sys2Proof/Machine/Step.lean ====
section
/-! DEFINITION. One step of the machine: one whole interface operation (spec 00 R6); and how the host places an instruction where the next step fetches it. -/

namespace Sys2Proof.Machine

/-- One atomic transition: the next interface operation, begun and performed (R5, R6; log entry 4). -/
def step (s : State) : Host.Outcome State Fault Refusal := perform (nextOperation s) (beginOperation s)

/-- Where `withFetchWord` places the word: pc, or the program base when no word can be fetched at pc (R112). -/
def fetchPlace (s : State) : Word := if accessOk s.pc.toNat 2 then s.pc else BitVec.ofNat 16 programBase

/-- The instruction whose bits are `w` (opcode table numbering) stored where the next step fetches, high byte at the lower
address (R53). The step must be an instruction step of a Ready machine: a key wait is ended, and an instruction step is requested
before whatever else comes (log entry 11). -/
def State.withFetchWord (s : State) (nbits w : Nat) : State :=
  let p := fetchPlace s
  let bytes := [highByte (tableWord nbits w), lowByte (tableWord nbits w)]
  (((s.setMemory (s.memory.writeBytes p.toNat bytes)).setPc p).setXs .ready).setRequests (.stepInstruction :: s.requests)

end Sys2Proof.Machine
end

