-- ==== Sys2Proof/Safety.lean ====
section
/-! DEFINITION. What counts as a good run, the invariant, and the vocabulary claims use: what an instruction may change, which pixels a sprite covers, who may report what (spec 10 R21, R22, R35; 40 R116; 44 R201; 60 R268, R270). -/

namespace Sys2Proof.Machine

/-- The operation handed an error to its caller (R268). -/
def OpResult.isError : OpResult → Bool
  | .ok => false
  | .pixels _ => false
  | .error _ => true

/-- A step that neither stops nor reports an error. The spec asks that an errored run never counts as a good one (R120, R265). -/
def CleanStep (s t : State) : Prop := step s = .next t ∧ t.result.isError = false

/-- A run of `n` clean steps: what a claim about a program may call a good run. -/
def CleanRun : Nat → State → State → Prop
  | 0, s, t => s = t
  | n + 1, s, t => ∃ u, CleanStep s u ∧ CleanRun n u t

/-- What every state a run reaches satisfies: memory is canonical and inside RAM (R27, R50); pc is at most the largest BNNN target
(R138), so that a 16-bit wrap of pc + 2 cannot occur (R22); return addresses are the addresses after calls (R133, R113); the stack holds
at most `STACK_DEPTH` values (R24, R266). -/
structure Inv (s : State) : Prop where
  memory : s.memory.wf = true
  pc : s.pc.toNat ≤ 0x10FE
  returns : ∀ a ∈ s.stack, a.toNat ≤ 0x1000
  depth : ∀ d, s.cfg.stackDepth = some d → s.stack.length ≤ d

/-- What an instruction or operation may change besides pc. Memory may change in the `storeLength` bytes from `storeBase` on. -/
structure Footprint where
  regs : List Reg := []
  index : Bool := false
  stack : Bool := false
  delay : Bool := false
  sound : Bool := false
  storeBase : Nat := 0
  storeLength : Nat := 0
  screen : Bool := false
  keys : List Nibble := []
  xs : Bool := false
  draws : Bool := false
  result : Bool := false
  deriving DecidableEq, Repr

/-- Everything outside the footprint is unchanged: every other register (VF among them), I, the stack, the timers, every other
byte of memory, every pixel, every other key, the execution state, the configuration, and the model's own fields. pc is not
spoken of. -/
structure Frame (f : Footprint) (s t : State) : Prop where
  regs : ∀ r, r ∉ f.regs → t.getV r = s.getV r
  index : f.index = false → t.index = s.index
  stack : f.stack = false → t.stack = s.stack
  delay : f.delay = false → t.delayTimer = s.delayTimer
  sound : f.sound = false → t.soundTimer = s.soundTimer
  memory : ∀ a, ¬(f.storeBase ≤ a ∧ a < f.storeBase + f.storeLength) → t.readByte a = s.readByte a
  screen : f.screen = false → ∀ y x, t.framebuffer.pixel y x = s.framebuffer.pixel y x
  keys : ∀ k, k ∉ f.keys → t.getKey k = s.getKey k
  xs : f.xs = false → t.xs = s.xs
  cfg : t.cfg = s.cfg
  draws : f.draws = false → t.draws = s.draws
  requests : t.requests = s.requests
  arrivals : t.arrivals = s.arrivals
  result : f.result = false → t.result = s.result

/-- The registers `V[0]` to `V[x]` (R184, R185). -/
def regsUpTo (x : Reg) : List Reg := (List.range (x.toNat + 1)).map (BitVec.ofNat 4)

/-- The registers an instruction names as its destination; the flag as a side effect is not meant (R20, R21). -/
def destinations : Instr → List Reg
  | .displayClear => []
  | .subroutineReturn => []
  | .system _ => []
  | .jump _ => []
  | .subroutineCall _ => []
  | .skipIfVxEqualsValue _ _ => []
  | .skipIfVxNotEqualsValue _ _ => []
  | .skipIfVxEqualsVy _ _ => []
  | .setRegisterWithValue x _ => [x]
  | .addValueToRegister x _ => [x]
  | .setVxWithVy x _ => [x]
  | .orVxWithVy x _ => [x]
  | .andVxWithVy x _ => [x]
  | .xorVxWithVy x _ => [x]
  | .addVxWithVy x _ => [x]
  | .subtractVxWithVy x _ => [x]
  | .shift1RightVxWithVy x _ => [x]
  | .subtractVyWithVx x _ => [x]
  | .shift1LeftVxWithVy x _ => [x]
  | .skipIfVxNotEqualsVy _ _ => []
  | .setIndex _ => []
  | .jumpWithOffset _ _ => []
  | .random x _ => [x]
  | .displayDraw _ _ _ => []
  | .skipIfKeyPressed _ => []
  | .skipIfKeyNotPressed _ => []
  | .getDelayTimer x => [x]
  | .waitForKey _ => []
  | .setDelayTimer _ => []
  | .setSoundTimer _ => []
  | .addToIndex _ => []
  | .setIndexToCharacter _ => []
  | .storeBcd _ => []
  | .storeRegisters _ => []
  | .loadRegisters x => regsUpTo x

/-- The seven instructions that write VF as a side effect (R21). -/
def writesFlag : Instr → Bool
  | .addVxWithVy _ _ => true
  | .subtractVxWithVy _ _ => true
  | .subtractVyWithVx _ _ => true
  | .shift1RightVxWithVy _ _ => true
  | .shift1LeftVxWithVy _ _ => true
  | .displayDraw _ _ _ => true
  | .addToIndex _ => true
  | .displayClear => false
  | .subroutineReturn => false
  | .system _ => false
  | .jump _ => false
  | .subroutineCall _ => false
  | .skipIfVxEqualsValue _ _ => false
  | .skipIfVxNotEqualsValue _ _ => false
  | .skipIfVxEqualsVy _ _ => false
  | .setRegisterWithValue _ _ => false
  | .addValueToRegister _ _ => false
  | .setVxWithVy _ _ => false
  | .orVxWithVy _ _ => false
  | .andVxWithVy _ _ => false
  | .xorVxWithVy _ _ => false
  | .skipIfVxNotEqualsVy _ _ => false
  | .setIndex _ => false
  | .jumpWithOffset _ _ => false
  | .random _ _ => false
  | .skipIfKeyPressed _ => false
  | .skipIfKeyNotPressed _ => false
  | .getDelayTimer _ => false
  | .waitForKey _ => false
  | .setDelayTimer _ => false
  | .setSoundTimer _ => false
  | .setIndexToCharacter _ => false
  | .storeBcd _ => false
  | .storeRegisters _ => false
  | .loadRegisters _ => false

/-- The instructions at which the toggles are read: four families (R10, R119). -/
def readsToggles : Instr → Bool
  | .shift1RightVxWithVy _ _ => true
  | .shift1LeftVxWithVy _ _ => true
  | .jumpWithOffset _ _ => true
  | .addToIndex _ => true
  | .storeRegisters _ => true
  | .loadRegisters _ => true
  | .displayClear => false
  | .subroutineReturn => false
  | .system _ => false
  | .jump _ => false
  | .subroutineCall _ => false
  | .skipIfVxEqualsValue _ _ => false
  | .skipIfVxNotEqualsValue _ _ => false
  | .skipIfVxEqualsVy _ _ => false
  | .setRegisterWithValue _ _ => false
  | .addValueToRegister _ _ => false
  | .setVxWithVy _ _ => false
  | .orVxWithVy _ _ => false
  | .andVxWithVy _ _ => false
  | .xorVxWithVy _ _ => false
  | .addVxWithVy _ _ => false
  | .subtractVxWithVy _ _ => false
  | .subtractVyWithVx _ _ => false
  | .skipIfVxNotEqualsVy _ _ => false
  | .setIndex _ => false
  | .random _ _ => false
  | .displayDraw _ _ _ => false
  | .skipIfKeyPressed _ => false
  | .skipIfKeyNotPressed _ => false
  | .getDelayTimer _ => false
  | .waitForKey _ => false
  | .setDelayTimer _ => false
  | .setSoundTimer _ => false
  | .setIndexToCharacter _ => false
  | .storeBcd _ => false

/-- Which error an instruction may report: at most one kind each (R270). -/
def MayReport (i : Instr) (s : State) (e : Error) : Prop :=
  (∃ nnn, i = .system nnn ∧ e = .unsupportedInstruction i)
  ∨ (i = .subroutineReturn ∧ e = .stackUnderflow)
  ∨ ((∃ nnn, i = .subroutineCall nnn) ∧ e = .stackOverflow)
  ∨ (∃ x, (i = .skipIfKeyPressed x ∨ i = .skipIfKeyNotPressed x) ∧ e = .invalidKey (s.getV x))

/-- The instructions whose data access may lie outside memory (R265, R270). -/
def MayFault (i : Instr) : Prop :=
  (∃ x y n, i = .displayDraw x y n) ∨ ∃ x, i = .storeBcd x ∨ i = .storeRegisters x ∨ i = .loadRegisters x

/-- The state an answer carries, next or reported with a fault, changed by `g`: to compare two runs. -/
def mapState (g : State → State) : Answer → Answer
  | .next t => .next (g t)
  | .fault (.memoryOutOfRange a t) => .fault (.memoryOutOfRange a (g t))
  | .refused r => .refused r

/-- The same state under another setting of the four toggles; the two parameters stay (R10, R11). -/
def withToggles (a b c d : Bool) (s : State) : State :=
  { s with cfg := { s.cfg with shiftIgnoresVy := a, jumpReadsFromVx := b, addToIndexStoresOverflow := c, storeLoadModifiesI := d } }

/-- The keys that the valid presses among some operations name (R274). -/
def pressedKeys (ops : List Operation) : List Nibble :=
  ops.filterMap fun
    | .pressKey j => if j.toNat ≤ 15 then some (j.setWidth 4) else none
    | .stepInstruction => none
    | .tickTimer => none
    | .releaseKey _ => none
    | .load _ => none
    | .reset => none
    | .readFramebuffer => none

/-- Whether the sprite of DXYN covers the pixel in row `r` and column `c` with a 1 bit: inside the rows and columns drawn, clipped
at the bottom and right edges, bit 7 leftmost (R201). -/
def spriteCovers (x y : Reg) (n : Nibble) (s : State) (r c : Nat) : Bool :=
  let x0 := (s.getV x).toNat % 64
  let y0 := (s.getV y).toNat % 32
  decide (r < 32 ∧ c < 64 ∧ y0 ≤ r ∧ r < y0 + n.toNat ∧ x0 ≤ c ∧ c < x0 + 8)
    && (s.readByte (s.index.toNat + (r - y0))).getLsbD (7 - (c - x0))

/-- Whether the sprite of DXYN covers any pixel that is set: the collision (R201, R16). -/
def spriteCollides (x y : Reg) (n : Nibble) (s : State) : Prop :=
  ∃ r c, spriteCovers x y n s r c = true ∧ s.framebuffer.pixel r c = true

end Sys2Proof.Machine
end

