-- ==== Sys2Proof/Certificates/Slice0/Obligations.lean ====
section
/-! DEFINITION. The statements for the provers, from the spec's numbered rules: encodings, the step, each instruction's result, completion and frame, the external operations, and the whole-machine rules. -/

open Sys2Proof Sys2Proof.Machine

/-! Encoding (30 R80 to R88). -/

/-- Decoding an encoded well-formed instruction gives it back, every operand at every value (30 R84, R85). The patterns but those
of 00E0, 6XNN and DXYN are the spec's own, marked general knowledge (D2). -/
def Obligations.DecodeOfEncode : Prop := ∀ i : Instr, i.wf = true → decode (encode i) = .ok i

/-- A word that decodes, decodes to a well-formed instruction whose encoding is that word (30 R84, R85). The patterns but those of
00E0, 6XNN and DXYN are the spec's own, marked general knowledge (D2). -/
def Obligations.EncodeOfDecode : Prop := ∀ (op : Word) (i : Instr), decode op = .ok i → i.wf = true ∧ encode i = op

/-- A word decodes to an instruction only if it matches that instruction's row of the opcode map, `(op AND mask) = match`; and the
two FIXED rows take priority over the 0NNN row (30 R84). The patterns but those of 00E0, 6XNN and DXYN are the spec's own (D2), as
is x = 0 in 00E0 (D3). -/
def Obligations.DecodedWordMatchesRow : Prop :=
  (∀ (op : Word) (i : Instr), decode op = .ok i → op &&& i.row.mask = i.row.pattern)
  ∧ decode 0x00E0#16 = .ok .displayClear ∧ decode 0x00EE#16 = .ok .subroutineReturn
  ∧ ∀ op : Word, op &&& 0xF000#16 = 0x0000#16 → op ≠ 0x00E0#16 → op ≠ 0x00EE#16 → decode op = .ok (.system (op.setWidth 12))

/-- The unknown words are exactly those of the five classes of the map, and each is refused by its own value (30 R86, first table;
R85 "otherwise"). The classes follow from patterns that are the spec's own (D2). -/
def Obligations.UnknownWordClasses : Prop :=
  ∀ op : Word, decode op = .error (.unknownOpcode op) ↔
    ((op.toNat / 4096 = 5 ∨ op.toNat / 4096 = 9) ∧ op.toNat % 16 ≠ 0)
    ∨ (op.toNat / 4096 = 8 ∧ op.toNat % 16 ∉ [0, 1, 2, 3, 4, 5, 6, 7, 0xE])
    ∨ (op.toNat / 4096 = 0xE ∧ op.toNat % 256 ∉ [0x9E, 0xA1])
    ∨ (op.toNat / 4096 = 0xF ∧ op.toNat % 256 ∉ [0x07, 0x0A, 0x15, 0x18, 0x1E, 0x29, 0x33, 0x55, 0x65])

/-- Words written out from the spec decode to the instructions they stand for (95 T-E1, T-E2; 30 R84). Patterns of the spec's own
among them (D2). -/
def Obligations.SampleWordsDecode : Prop :=
  decode 0xD125#16 = .ok (.displayDraw 1#4 2#4 5#4)
  ∧ decode 0x6A10#16 = .ok (.setRegisterWithValue 0xA#4 0x10#8)
  ∧ decode 0x2234#16 = .ok (.subroutineCall 0x234#12)
  ∧ decode 0x8126#16 = .ok (.shift1RightVxWithVy 1#4 2#4)
  ∧ decode 0xF255#16 = .ok (.storeRegisters 2#4)
  ∧ decode 0xC10F#16 = .ok (.random 1#4 0x0F#8)
  ∧ decode 0xE29E#16 = .ok (.skipIfKeyPressed 2#4)
  ∧ decode 0x01E0#16 = .ok (.system 0x1E0#12)

/-! The step (40 R110 to R115). -/

/-- `step_instruction()` as a whole: nothing while waiting; a fetch outside memory stops with the lowest out-of-range address and
the state unchanged; else pc advances by 2 before decode, an unknown word is reported, and a known one is executed (40 R110 to
R114). That an unknown word is a next state with the error as result is log entry 6, that MemoryOutOfRange stops is log entry 7.
-/
def Obligations.StepInstructionSequence : Prop :=
  ∀ s : State,
    (∀ r, s.xs = .waitingForKey r → stepInstruction s = .next s)
    ∧ (s.xs = .ready → 0xFFE < s.pc.toNat → stepInstruction s = .fault (.memoryOutOfRange (max s.pc.toNat 0x1000) s))
    ∧ (s.xs = .ready → s.pc.toNat ≤ 0xFFE →
        ∀ op : Word, op.toNat = (s.readByte s.pc.toNat).toNat * 256 + (s.readByte (s.pc.toNat + 1)).toNat →
          (∀ i, decode op = .ok i → stepInstruction s = exec i (s.setPc (s.pc + 2#16)))
          ∧ (decode op = .error (.unknownOpcode op) →
              stepInstruction s = .next ((s.setPc (s.pc + 2#16)).setResult (.error (.unknownOpcode op)))))

/-- A step is one whole operation, begun and performed: the oldest request where one is listed, else whichever operation the free
value gives, for any agent may act next (00 R6; the spec's decision D21; the list, the free value with its counter, and the result
field are the model's own, log entries 4 and 5). A step runs the decoded instruction: when that operation is the instruction
clock's, the machine is Ready and the bytes at pc decode to a well-formed `i`, the step is `exec i` at the state with the
operation begun and pc moved past the word (40 R110, R113, R115). -/
def Obligations.StepRunsDecodedInstruction : Prop :=
  ∀ s : State,
    step s = perform (nextOperation s) (beginOperation s)
    ∧ (∀ op rest, s.requests = op :: rest → nextOperation s = op ∧ beginOperation s = (s.setRequests rest).setResult .ok)
    ∧ (s.requests = [] → nextOperation s = Config.arrival s.arrivals
        ∧ beginOperation s = (s.setArrivals (s.arrivals + 1)).setResult .ok)
    ∧ ∀ i : Instr, nextOperation s = .stepInstruction → s.xs = .ready → s.pc.toNat ≤ 0xFFE → i.wf = true →
        decode (assembleWord (s.readByte s.pc.toNat) (s.readByte (s.pc.toNat + 1))) = .ok i →
        step s = exec i ((beginOperation s).setPc (s.pc + 2#16))

/-- A step on a word that is no instruction reports UnknownOpcode with the word, pc advanced by 2 and nothing else changed; and
stepping again goes on from there (60 R261, R268; that the model goes on is log entry 6). -/
def Obligations.UnknownWordIsReported : Prop :=
  ∀ (s : State) (op : Word), nextOperation s = .stepInstruction → s.xs = .ready → s.pc.toNat ≤ 0xFFE →
    op = assembleWord (s.readByte s.pc.toNat) (s.readByte (s.pc.toNat + 1)) → decode op = .error (.unknownOpcode op) →
    ∃ t, step s = .next t ∧ t.result = .error (.unknownOpcode op) ∧ t.pc = s.pc + 2#16 ∧ Frame { result := true } (beginOperation s) t

/-- A step of the instruction clock stops when one of the two bytes at pc lies outside memory: MemoryOutOfRange with the lowest
out-of-range address, pc not advanced (40 R112, 60 R265). The fault is the spec's decision D5; that it stops the model is log
entry 7. -/
def Obligations.FetchOutsideMemoryFaults : Prop :=
  ∀ s : State, nextOperation s = .stepInstruction → s.xs = .ready → 0xFFE < s.pc.toNat →
    step s = .fault (.memoryOutOfRange (max s.pc.toNat 0x1000) (beginOperation s))

/-! External operations, each one step (00 R5; 44 R202; 60 R274 to R276; 70 R300 to R303). -/

/-- `tick_timer()`: each timer independently goes down by 1 unless it is 0; nothing else changes, in both execution states (60
R276). How the next operation is chosen is log entry 4, the result field log entry 5. -/
def Obligations.TickCountsDown : Prop :=
  ∀ s : State, nextOperation s = .tickTimer →
    ∃ t, step s = .next t
      ∧ t.delayTimer.toNat = (if s.delayTimer.toNat > 0 then s.delayTimer.toNat - 1 else 0)
      ∧ t.soundTimer.toNat = (if s.soundTimer.toNat > 0 then s.soundTimer.toNat - 1 else 0)
      ∧ t.result = .ok ∧ t.requests = s.requests.tail ∧ t.pc = s.pc
      ∧ Frame { delay := true, sound := true } (beginOperation s) t

/-- `n` ticks in a row: a timer ends `n` lower, and never below 0 (60 R276, 95 E4). The operations come from the model's request
list (log entry 4). -/
def Obligations.ManyTicksStopAtZero : Prop :=
  ∀ (n : Nat) (s : State), ∃ t : State, core.run n (s.setRequests (List.replicate n .tickTimer)) = .next t
    ∧ t.delayTimer.toNat = s.delayTimer.toNat - n ∧ t.soundTimer.toNat = s.soundTimer.toNat - n

/-- `press_key(k)`: a valid key's flag is set and nothing else changes, so that a press never ends a wait; an invalid key is
reported and changes nothing (60 R274, R263). How the next operation is chosen is log entry 4, the result field log entry 5, an
error as a next state log entry 6. -/
def Obligations.PressKeySetsFlag : Prop :=
  ∀ (s : State) (k : Byte), nextOperation s = .pressKey k →
    (k.toNat ≤ 15 → ∃ t, step s = .next t ∧ (∀ j : Nibble, j.toNat = k.toNat → t.getKey j = true) ∧ t.result = .ok ∧ t.pc = s.pc
      ∧ Frame { keys := [k.setWidth 4] } (beginOperation s) t)
    ∧ (15 < k.toNat → ∃ t, step s = .next t ∧ t.result = .error (.invalidKey k) ∧ t.pc = s.pc
      ∧ Frame { result := true } (beginOperation s) t)

/-- `release_key(k)`: a valid key's flag is cleared, and a waiting register receives the key number and the machine is Ready; pc
is not touched; an invalid key is reported and changes nothing, a wait included (60 R275, R263). How the next operation is chosen
is log entry 4, the result field log entry 5, an error as a next state log entry 6. -/
def Obligations.ReleaseKeyResolvesWait : Prop :=
  ∀ (s : State) (k : Byte), nextOperation s = .releaseKey k →
    (k.toNat ≤ 15 → s.xs = .ready →
      ∃ t, step s = .next t ∧ (∀ j : Nibble, j.toNat = k.toNat → t.getKey j = false) ∧ t.result = .ok ∧ t.pc = s.pc
        ∧ Frame { keys := [k.setWidth 4] } (beginOperation s) t)
    ∧ (∀ r, k.toNat ≤ 15 → s.xs = .waitingForKey r →
      ∃ t, step s = .next t ∧ (∀ j : Nibble, j.toNat = k.toNat → t.getKey j = false) ∧ t.getV r = k ∧ t.xs = .ready
        ∧ t.result = .ok ∧ t.pc = s.pc ∧ Frame { keys := [k.setWidth 4], regs := [r], xs := true } (beginOperation s) t)
    ∧ (15 < k.toNat → ∃ t, step s = .next t ∧ t.result = .error (.invalidKey k) ∧ t.pc = s.pc
      ∧ Frame { result := true } (beginOperation s) t)

/-- Only a valid key release, a reset or a load that fits ends a key wait (60 R282, R275; 40 R111; 70 R300, R301). That a reset
makes the machine Ready is the spec's decision D18 (log entry 17); how the next operation is chosen is log entry 4. -/
def Obligations.OnlyReleaseOrResetEndsWait : Prop :=
  ∀ (s t : State) (r : Reg), s.xs = .waitingForKey r → step s = .next t → t.xs ≠ .waitingForKey r →
    t.xs = .ready ∧ ((∃ k : Byte, k.toNat ≤ 15 ∧ nextOperation s = .releaseKey k) ∨ nextOperation s = .reset
      ∨ ∃ rom : List Byte, rom.length ≤ 3584 ∧ nextOperation s = .load rom)

/-- `reset()`: memory 0 but for the font, every pixel 0, stack empty, registers 0, pc 0x200, timers and I 0, keys 0, Ready; the
configuration is not touched (70 R300, 10 R33). The machine that `State.reset` constructs has the same values. Ready after reset
is the spec's decision D18 (log entry 17), the font bytes are general knowledge (D23, log entry 8), the request list is log entry
4, the result field log entry 5. -/
def Obligations.ResetLeavesResetValues : Prop :=
  ∀ s : State, nextOperation s = .reset →
    ∃ t, step s = .next t ∧ t.cfg = s.cfg ∧ t.result = .ok
      ∧ ∀ u, u = t ∨ u = State.reset →
        (∀ a, a < 0x1000 → u.readByte a = if 0x050 ≤ a ∧ a ≤ 0x09F then font.getD (a - 0x050) 0#8 else 0#8)
        ∧ (∀ y x, u.framebuffer.pixel y x = false) ∧ u.stack = [] ∧ (∀ r, u.getV r = 0#8) ∧ u.pc = 0x0200#16
        ∧ u.delayTimer = 0#8 ∧ u.soundTimer = 0#8 ∧ u.index = 0x0000#16 ∧ (∀ k, u.getKey k = false) ∧ u.xs = .ready

/-- Reset is complete: from every state `reset()` leaves the constructed state with that state's configuration, whatever the state
held, so that two states with the same configuration (and the same of what the model keeps) have the same reset; `load([])` equals
`reset()`, reset is idempotent, and loading any ROM and then `load([])` leaves what `reset()` alone leaves (70 R303, R302, 95 E3).
What the model keeps over a reset besides the configuration (draws, requests, arrivals, result) is log entry 18. -/
def Obligations.ResetIsComplete : Prop :=
  (∀ s, perform .reset s = .next
      { State.reset with cfg := s.cfg, draws := s.draws, requests := s.requests, arrivals := s.arrivals, result := s.result })
  ∧ (∀ s u, s.cfg = u.cfg → s.draws = u.draws → s.requests = u.requests → s.arrivals = u.arrivals → s.result = u.result →
      perform .reset s = perform .reset u)
  ∧ (∀ s, perform (.load []) s = perform .reset s)
  ∧ (∀ s t, perform .reset s = .next t → perform .reset t = .next t)
  ∧ (∀ (rom : List Byte) s t, rom.length ≤ 3584 → perform (.load rom) s = .next t → perform (.load []) t = perform .reset s)

/-- `load(rom)`: a ROM that fits is copied in order from 0x200 onto the reset state; a larger one is reported with its length and
changes nothing, not even a reset (70 R301, 60 R267). The size check before the reset is the spec's decision D18 (log entry 17),
an error as a next state log entry 6, how the next operation is chosen log entry 4, the result field log entry 5. -/
def Obligations.LoadPlacesRom : Prop :=
  ∀ (s : State) (rom : List Byte), nextOperation s = .load rom →
    (rom.length ≤ 3584 → ∃ t u, step s = .next t ∧ perform .reset (beginOperation s) = .next u
      ∧ (∀ j, j < rom.length → t.readByte (0x200 + j) = rom.getD j 0#8) ∧ t.pc = u.pc ∧ t.result = .ok
      ∧ Frame { storeBase := 0x200, storeLength := rom.length } u t)
    ∧ (3584 < rom.length → ∃ t, step s = .next t ∧ t.result = .error (.romTooLarge rom.length) ∧ t.pc = s.pc
      ∧ Frame { result := true } (beginOperation s) t)

/-- The framebuffer read port hands over the pixels and changes nothing of the core (44 R202, 00 R5). That the pixels are handed
over in the result field is log entry 5. How the next operation is chosen is log entry 4. -/
def Obligations.FramebufferReadChangesNothing : Prop :=
  ∀ s : State, nextOperation s = .readFramebuffer →
    ∃ t, step s = .next t ∧ t.result = .pixels s.framebuffer ∧ t.pc = s.pc ∧ Frame { result := true } (beginOperation s) t

/-! System call and control flow (41). In every statement about `exec`, pc is already the instruction's address plus 2 (R113). -/

/-- 0NNN: always UnsupportedInstruction carrying the instruction; nothing else changes (41 R130, 60 R262). An error as a next
state is log entry 6. -/
def Obligations.SystemIsReported : Prop :=
  ∀ (nnn : Addr12) (s : State), ∃ t, exec (.system nnn) s = .next t
    ∧ t.result = .error (.unsupportedInstruction (.system nnn)) ∧ t.pc = s.pc ∧ Frame { result := true } s t

/-- 00EE: pc is the most recently pushed value and the stack is one shorter; on the empty stack StackUnderflow and nothing else
changes (41 R131, 60 R264). StackUnderflow is the spec's decision D8, an error as a next state log entry 6, the stack's order in
the list log entry 10. -/
def Obligations.ReturnPopsPc : Prop :=
  decode 0x00EE#16 = .ok .subroutineReturn
  ∧ ∀ s : State,
    (∀ a rest, s.stack = a :: rest → ∃ t, exec .subroutineReturn s = .next t ∧ t.pc = a ∧ t.stack = rest ∧ Frame { stack := true } s t)
    ∧ (s.stack = [] → ∃ t, exec .subroutineReturn s = .next t ∧ t.result = .error .stackUnderflow ∧ t.pc = s.pc
      ∧ Frame { result := true } s t)

/-- 1NNN: pc is the absolute 12-bit address, odd or even; no flag (41 R132). The spec marks this meaning as general knowledge of
its own (R132). -/
def Obligations.JumpLoadsPc : Prop :=
  ∀ nnn : Addr12, decode (0x1#4 ++ nnn) = .ok (.jump nnn)
    ∧ ∀ s : State, ∃ t, exec (.jump nnn) s = .next t ∧ t.pc.toNat = nnn.toNat ∧ Frame {} s t

/-- 2NNN: the advanced pc is pushed and pc is the absolute address; only when the stack holds exactly `STACK_DEPTH` values is
StackOverflow reported and nothing else changed, which never happens with the unbounded depth (41 R133, 60 R266). STACK_DEPTH is
the spec's own parameter (D9, log entry 2), an error as a next state log entry 6, the stack's order in the list log entry 10. -/
def Obligations.CallPushesPc : Prop :=
  ∀ nnn : Addr12, decode (0x2#4 ++ nnn) = .ok (.subroutineCall nnn)
    ∧ ∀ s : State,
      (s.cfg.stackDepth ≠ some s.stack.length → ∃ t, exec (.subroutineCall nnn) s = .next t ∧ t.stack = s.pc :: s.stack
        ∧ t.pc.toNat = nnn.toNat ∧ Frame { stack := true } s t)
      ∧ (s.cfg.stackDepth = some s.stack.length → ∃ t, exec (.subroutineCall nnn) s = .next t ∧ t.result = .error .stackOverflow
        ∧ t.pc = s.pc ∧ Frame { result := true } s t)

/-- A call and then a return restore pc to its value at the call (already advanced) and the stack to what it was (41 R131, R133,
95 E8). STACK_DEPTH is the spec's own parameter (D9, log entry 2). -/
def Obligations.ReturnUndoesCall : Prop :=
  ∀ (nnn : Addr12) (s : State), s.cfg.stackDepth ≠ some s.stack.length →
    ∃ t, exec (.subroutineCall nnn) s = .next t ∧ ∃ u, exec .subroutineReturn t = .next u ∧ u.pc = s.pc ∧ u.stack = s.stack

/-- 3XNN and 4XNN: skip two bytes when V[x] equals, or does not equal, the immediate, so exactly one of them skips (41 R134, R135,
R139). The spec marks this meaning as general knowledge of its own (R134, R135, R139; D15). -/
def Obligations.ImmediateSkips : Prop :=
  ∀ (x : Reg) (nn : Byte),
    decode (0x3#4 ++ x ++ nn) = .ok (.skipIfVxEqualsValue x nn) ∧ decode (0x4#4 ++ x ++ nn) = .ok (.skipIfVxNotEqualsValue x nn)
    ∧ ∀ s : State,
      (∃ t, exec (.skipIfVxEqualsValue x nn) s = .next t ∧ t.pc = (if s.getV x = nn then s.pc + 2#16 else s.pc) ∧ Frame {} s t)
      ∧ (∃ t, exec (.skipIfVxNotEqualsValue x nn) s = .next t ∧ t.pc = (if s.getV x = nn then s.pc else s.pc + 2#16) ∧ Frame {} s t)

/-- 5XY0 and 9XY0: skip two bytes when V[x] equals, or does not equal, V[y] (41 R136, R137, R139). The spec marks this meaning as
general knowledge of its own (R136, R137, R139; D15). -/
def Obligations.RegisterSkips : Prop :=
  ∀ x y : Reg,
    decode (0x5#4 ++ x ++ y ++ 0x0#4) = .ok (.skipIfVxEqualsVy x y) ∧ decode (0x9#4 ++ x ++ y ++ 0x0#4) = .ok (.skipIfVxNotEqualsVy x y)
    ∧ ∀ s : State,
      (∃ t, exec (.skipIfVxEqualsVy x y) s = .next t ∧ t.pc = (if s.getV x = s.getV y then s.pc + 2#16 else s.pc) ∧ Frame {} s t)
      ∧ (∃ t, exec (.skipIfVxNotEqualsVy x y) s = .next t ∧ t.pc = (if s.getV x = s.getV y then s.pc else s.pc + 2#16) ∧ Frame {} s t)

/-- BNNN: pc is the whole 12-bit address plus V[0], or plus V[x] of the address's top nibble with the toggle on; at most 0x10FE,
not reduced to 12 bits (41 R138). That the sum is not reduced is the spec's decision D7 (log entry 14). -/
def Obligations.JumpWithOffsetAddsBase : Prop :=
  ∀ nnn : Addr12, decode (0xB#4 ++ nnn) = .ok (.jumpWithOffset (nnn.extractLsb' 8 4) nnn)
    ∧ ∀ (x : Reg) (s : State), ∃ t, exec (.jumpWithOffset x nnn) s = .next t
      ∧ t.pc.toNat = nnn.toNat + (s.getV (if s.cfg.jumpReadsFromVx then x else 0#4)).toNat
      ∧ t.pc.toNat ≤ 0x10FE ∧ Frame {} s t

/-! Register file and ALU (42). -/

/-- 6XNN: V[x] is the immediate, the flag register like any other (42 R150). -/
def Obligations.SetRegisterLoadsValue : Prop :=
  ∀ (x : Reg) (nn : Byte), decode (0x6#4 ++ x ++ nn) = .ok (.setRegisterWithValue x nn)
    ∧ ∀ s : State, ∃ t, exec (.setRegisterWithValue x nn) s = .next t ∧ t.getV x = nn ∧ t.pc = s.pc ∧ Frame { regs := [x] } s t

/-- 7XNN: V[x] plus the immediate modulo 256; VF is not written, even when the sum wraps (42 R151). The spec marks this meaning as
general knowledge of its own (R151; D15). -/
def Obligations.AddValueWrapsWithoutFlag : Prop :=
  ∀ (x : Reg) (nn : Byte), decode (0x7#4 ++ x ++ nn) = .ok (.addValueToRegister x nn)
    ∧ ∀ s : State, ∃ t, exec (.addValueToRegister x nn) s = .next t ∧ (t.getV x).toNat = ((s.getV x).toNat + nn.toNat) % 256
      ∧ t.pc = s.pc ∧ Frame { regs := [x] } s t

/-- 8XY0 to 8XY3: copy, OR, AND, XOR, bit by bit, into V[x]; VF is neither written nor reset (42 R152 to R155). The spec marks
this meaning as general knowledge of its own (R152 to R155; D15). -/
def Obligations.CopyAndLogicBitwise : Prop :=
  ∀ x y : Reg,
    decode (0x8#4 ++ x ++ y ++ 0x0#4) = .ok (.setVxWithVy x y) ∧ decode (0x8#4 ++ x ++ y ++ 0x1#4) = .ok (.orVxWithVy x y)
    ∧ decode (0x8#4 ++ x ++ y ++ 0x2#4) = .ok (.andVxWithVy x y) ∧ decode (0x8#4 ++ x ++ y ++ 0x3#4) = .ok (.xorVxWithVy x y)
    ∧ ∀ s : State,
      (∃ t, exec (.setVxWithVy x y) s = .next t ∧ t.getV x = s.getV y ∧ t.pc = s.pc ∧ Frame { regs := [x] } s t)
      ∧ (∃ t, exec (.orVxWithVy x y) s = .next t ∧ t.pc = s.pc ∧ Frame { regs := [x] } s t
        ∧ ∀ b, b < 8 → (t.getV x).getLsbD b = ((s.getV x).getLsbD b || (s.getV y).getLsbD b))
      ∧ (∃ t, exec (.andVxWithVy x y) s = .next t ∧ t.pc = s.pc ∧ Frame { regs := [x] } s t
        ∧ ∀ b, b < 8 → (t.getV x).getLsbD b = ((s.getV x).getLsbD b && (s.getV y).getLsbD b))
      ∧ (∃ t, exec (.xorVxWithVy x y) s = .next t ∧ t.pc = s.pc ∧ Frame { regs := [x] } s t
        ∧ ∀ b, b < 8 → (t.getV x).getLsbD b = ((s.getV x).getLsbD b != (s.getV y).getLsbD b))

/-- 8XY4: V[x] is the sum modulo 256 and VF the carry of the old values; with x = 0xF the flag remains (42 R156, 40 R116). That
the flag is written last is the spec's decision D4 (R116; log entry 13), the word's pattern its decision D2 (log entry 12). -/
def Obligations.AddSetsCarry : Prop :=
  ∀ x y : Reg, decode (0x8#4 ++ x ++ y ++ 0x4#4) = .ok (.addVxWithVy x y)
    ∧ ∀ s : State, ∃ t, exec (.addVxWithVy x y) s = .next t
      ∧ (x ≠ vf → (t.getV x).toNat = ((s.getV x).toNat + (s.getV y).toNat) % 256)
      ∧ (t.getV vf).toNat = (if (s.getV x).toNat + (s.getV y).toNat > 255 then 1 else 0)
      ∧ t.pc = s.pc ∧ Frame { regs := [x, vf] } s t

/-- 8XY5: V[x] is V[x] minus V[y] modulo 256 and VF is 1 exactly when no borrow occurred; with x = 0xF the flag remains (42 R157,
40 R116). That the flag is written last is the spec's decision D4 (R116; log entry 13), the word's pattern its decision D2 (log
entry 12). -/
def Obligations.SubtractSetsNoBorrow : Prop :=
  ∀ x y : Reg, decode (0x8#4 ++ x ++ y ++ 0x5#4) = .ok (.subtractVxWithVy x y)
    ∧ ∀ s : State, ∃ t, exec (.subtractVxWithVy x y) s = .next t
      ∧ (x ≠ vf → (t.getV x).toNat = ((s.getV x).toNat + 256 - (s.getV y).toNat) % 256)
      ∧ (t.getV vf).toNat = (if (s.getV y).toNat ≤ (s.getV x).toNat then 1 else 0)
      ∧ t.pc = s.pc ∧ Frame { regs := [x, vf] } s t

/-- 8XY7: V[x] is V[y] minus V[x] modulo 256 and VF is 1 exactly when no borrow occurred; with x = 0xF the flag remains (42 R159,
40 R116). That the flag is written last is the spec's decision D4 (R116; log entry 13), the word's pattern its decision D2 (log
entry 12). -/
def Obligations.SubtractReversedSetsNoBorrow : Prop :=
  ∀ x y : Reg, decode (0x8#4 ++ x ++ y ++ 0x7#4) = .ok (.subtractVyWithVx x y)
    ∧ ∀ s : State, ∃ t, exec (.subtractVyWithVx x y) s = .next t
      ∧ (x ≠ vf → (t.getV x).toNat = ((s.getV y).toNat + 256 - (s.getV x).toNat) % 256)
      ∧ (t.getV vf).toNat = (if (s.getV x).toNat ≤ (s.getV y).toNat then 1 else 0)
      ∧ t.pc = s.pc ∧ Frame { regs := [x, vf] } s t

/-- 8XY6: the value shifted is V[x] with the toggle on, else V[y]; V[x] is half of it and VF its bit 0; with x = 0xF the flag
remains (42 R158, 40 R116). That the flag is written last is the spec's decision D4 (R116; log entry 13), the word's pattern its
decision D2 (log entry 12). -/
def Obligations.ShiftRightSetsBitOut : Prop :=
  ∀ x y : Reg, decode (0x8#4 ++ x ++ y ++ 0x6#4) = .ok (.shift1RightVxWithVy x y)
    ∧ ∀ s : State, ∃ t, exec (.shift1RightVxWithVy x y) s = .next t
      ∧ (x ≠ vf → (t.getV x).toNat = (if s.cfg.shiftIgnoresVy then s.getV x else s.getV y).toNat / 2)
      ∧ (t.getV vf).toNat = (if s.cfg.shiftIgnoresVy then s.getV x else s.getV y).toNat % 2
      ∧ t.pc = s.pc ∧ Frame { regs := [x, vf] } s t

/-- 8XYE: the value shifted is V[x] with the toggle on, else V[y]; V[x] is twice it modulo 256 and VF its bit 7; with x = 0xF the
flag remains (42 R160, 40 R116). That the flag is written last is the spec's decision D4 (R116; log entry 13), the word's pattern
its decision D2 (log entry 12). -/
def Obligations.ShiftLeftSetsBitOut : Prop :=
  ∀ x y : Reg, decode (0x8#4 ++ x ++ y ++ 0xE#4) = .ok (.shift1LeftVxWithVy x y)
    ∧ ∀ s : State, ∃ t, exec (.shift1LeftVxWithVy x y) s = .next t
      ∧ (x ≠ vf → (t.getV x).toNat = 2 * (if s.cfg.shiftIgnoresVy then s.getV x else s.getV y).toNat % 256)
      ∧ (t.getV vf).toNat = (if s.cfg.shiftIgnoresVy then s.getV x else s.getV y).toNat / 128
      ∧ t.pc = s.pc ∧ Frame { regs := [x, vf] } s t

/-! Index register and memory (43). -/

/-- ANNN: I is the 12-bit address (43 R180). The spec marks this meaning as general knowledge of its own (R180). -/
def Obligations.SetIndexLoadsAddress : Prop :=
  ∀ nnn : Addr12, decode (0xA#4 ++ nnn) = .ok (.setIndex nnn)
    ∧ ∀ s : State, ∃ t, exec (.setIndex nnn) s = .next t ∧ t.index.toNat = nnn.toNat ∧ t.pc = s.pc ∧ Frame { index := true } s t

/-- FX1E: I plus V[x] modulo 65536; with the toggle on VF becomes 1 when the unwrapped sum is above 0x1000, or equal to it and
ADDI_OVF_AT_1000 holds; in every other case VF is unchanged (43 R181). Never clearing VF and the parameter are the spec's decision
D10 (log entries 2 and 15). That I keeps 16 bits and the sum wraps modulo 65536 is the spec's decision D7 (R23; log entry 14),
that V[x] is read before VF is written its decision D4 (R116; log entry 13). -/
def Obligations.AddToIndexOverflow : Prop :=
  ∀ x : Reg, decode (0xF#4 ++ x ++ 0x1E#8) = .ok (.addToIndex x)
    ∧ ∀ s : State, ∃ t, exec (.addToIndex x) s = .next t
      ∧ t.index.toNat = (s.index.toNat + (s.getV x).toNat) % 65536
      ∧ t.getV vf = (if s.cfg.addToIndexStoresOverflow = true ∧ (s.index.toNat + (s.getV x).toNat > 0x1000
          ∨ (s.index.toNat + (s.getV x).toNat = 0x1000 ∧ s.cfg.addiOvfAt1000 = true)) then 1#8 else s.getV vf)
      ∧ t.pc = s.pc ∧ Frame { regs := [vf], index := true } s t

/-- FX29: I is 0x50 plus 5 times the low nibble of V[x]; memory is not read or changed (43 R182). The low nibble is the spec's
decision D12 (log entry 15), the formula its general knowledge. -/
def Obligations.CharacterAddress : Prop :=
  ∀ x : Reg, decode (0xF#4 ++ x ++ 0x29#8) = .ok (.setIndexToCharacter x)
    ∧ ∀ s : State, ∃ t, exec (.setIndexToCharacter x) s = .next t ∧ t.index.toNat = 0x050 + 5 * ((s.getV x).toNat % 16)
      ∧ t.pc = s.pc ∧ Frame { index := true } s t

/-- FX33: the hundreds, tens and ones of V[x] at I, I + 1, I + 2, every other byte and I itself unchanged; when one of the three
addresses is above 0xFFF the machine stops with MemoryOutOfRange and nothing is written (43 R183, 20 R56). The spec marks this
meaning as general knowledge of its own (R183; D13); the fault is its decision D5, and that it stops the model is log entry 7. -/
def Obligations.BcdStoresDigits : Prop :=
  ∀ x : Reg, decode (0xF#4 ++ x ++ 0x33#8) = .ok (.storeBcd x)
    ∧ ∀ s : State,
      (s.index.toNat + 2 ≤ 0xFFF → ∃ t, exec (.storeBcd x) s = .next t
        ∧ (t.readByte s.index.toNat).toNat = (s.getV x).toNat / 100
        ∧ (t.readByte (s.index.toNat + 1)).toNat = (s.getV x).toNat / 10 % 10
        ∧ (t.readByte (s.index.toNat + 2)).toNat = (s.getV x).toNat % 10
        ∧ t.pc = s.pc ∧ Frame { storeBase := dataBase s, storeLength := 3 } s t)
      ∧ (0xFFF < s.index.toNat + 2 → exec (.storeBcd x) s = .fault (.memoryOutOfRange (max s.index.toNat 0x1000) s))

/-- FX55: V[0] to V[x] at ascending addresses from I; I advances by x + 1 with the toggle on, else stays; when the last address is
above 0xFFF the machine stops with MemoryOutOfRange and nothing is written (43 R184, 20 R56). Direction and amount are the spec's
decision D11 (log entry 16), the fault is D5, and that it stops the model is log entry 7. -/
def Obligations.StoreRegistersToMemory : Prop :=
  ∀ x : Reg, decode (0xF#4 ++ x ++ 0x55#8) = .ok (.storeRegisters x)
    ∧ ∀ s : State,
      (s.index.toNat + x.toNat ≤ 0xFFF → ∃ t, exec (.storeRegisters x) s = .next t
        ∧ (∀ r : Reg, r.toNat ≤ x.toNat → t.readByte (s.index.toNat + r.toNat) = s.getV r)
        ∧ t.index.toNat = (if s.cfg.storeLoadModifiesI then s.index.toNat + x.toNat + 1 else s.index.toNat)
        ∧ t.pc = s.pc ∧ Frame { index := true, storeBase := dataBase s, storeLength := x.toNat + 1 } s t)
      ∧ (0xFFF < s.index.toNat + x.toNat → exec (.storeRegisters x) s = .fault (.memoryOutOfRange (max s.index.toNat 0x1000) s))

/-- FX65: V[0] to V[x] from ascending addresses from I, the registers above x and memory unchanged; I advances by x + 1 with the
toggle on, else stays; when the last address is above 0xFFF the machine stops with MemoryOutOfRange and no register changes (43
R185, 20 R56). Direction and amount are the spec's decision D11 (log entry 16), the fault is D5, and that it stops the model is
log entry 7. -/
def Obligations.LoadRegistersFromMemory : Prop :=
  ∀ x : Reg, decode (0xF#4 ++ x ++ 0x65#8) = .ok (.loadRegisters x)
    ∧ ∀ s : State,
      (s.index.toNat + x.toNat ≤ 0xFFF → ∃ t, exec (.loadRegisters x) s = .next t
        ∧ (∀ r : Reg, r.toNat ≤ x.toNat → t.getV r = s.readByte (s.index.toNat + r.toNat))
        ∧ t.index.toNat = (if s.cfg.storeLoadModifiesI then s.index.toNat + x.toNat + 1 else s.index.toNat)
        ∧ t.pc = s.pc ∧ Frame { regs := regsUpTo x, index := true } s t)
      ∧ (0xFFF < s.index.toNat + x.toNat → exec (.loadRegisters x) s = .fault (.memoryOutOfRange (max s.index.toNat 0x1000) s))

/-- Code a program stores is seen by the very next fetch: after FX55 with x at least 1, the word fetched at the old I is V[0] high
and V[1] low (20 R63, R53). The store's direction is the spec's decision D11 (log entry 16). -/
def Obligations.StoredWordIsFetched : Prop :=
  ∀ (x : Reg) (s t : State), 1 ≤ x.toNat → exec (.storeRegisters x) s = .next t →
    (t.setPc s.index).fetch = some (s.getV 0#4 ++ s.getV 1#4)

/-! Display (44). -/

/-- 00E0: every pixel 0, VF not written, nothing else touched (44 R200). -/
def Obligations.ClearEmptiesScreen : Prop :=
  decode 0x00E0#16 = .ok .displayClear
  ∧ ∀ s : State, ∃ t, exec .displayClear s = .next t ∧ (∀ y x, t.framebuffer.pixel y x = false) ∧ t.pc = s.pc ∧ Frame { screen := true } s t

/-- DXYN: the loops draw exactly the XOR of the clipped sprite onto the screen, VF is 1 exactly when a set pixel was covered and
else 0, and I and memory are unchanged; when a row that would be drawn lies above 0xFFF the machine stops with MemoryOutOfRange
and nothing is changed; rows clipped at the bottom are not read (44 R201). That clipped rows are not read is the spec's decision
D16 (log entry 16), the fault is D5, and that it stops the model is log entry 7. -/
def Obligations.DrawXorsClippedSprite : Prop :=
  ∀ (x y : Reg) (n : Nibble), decode (0xD#4 ++ x ++ y ++ n) = .ok (.displayDraw x y n)
    ∧ ∀ s : State,
      let rows := min n.toNat (32 - (s.getV y).toNat % 32)
      ((rows = 0 ∨ s.index.toNat + rows - 1 ≤ 0xFFF) → ∃ t, exec (.displayDraw x y n) s = .next t
        ∧ (∀ r c, r < 32 → c < 64 → t.framebuffer.pixel r c = (s.framebuffer.pixel r c != spriteCovers x y n s r c))
        ∧ (t.getV vf = 1#8 ∨ t.getV vf = 0#8) ∧ (t.getV vf = 1#8 ↔ spriteCollides x y n s)
        ∧ t.pc = s.pc ∧ Frame { regs := [vf], screen := true } s t)
      ∧ (0 < rows → 0xFFF < s.index.toNat + rows - 1 →
        exec (.displayDraw x y n) s = .fault (.memoryOutOfRange (max s.index.toNat 0x1000) s))

/-- Drawing the same sprite twice at the same place restores the screen; the second draw leaves VF = 1 exactly when the sprite
covered a pixel that was clear before the first (44 R201; the sentence of its corner cases, "if the sprite had any 1 bit that was
drawn", leaves the clear pixel unsaid, log entry 19). The coordinates' registers are not VF, which the first draw overwrites. -/
def Obligations.DrawTwiceRestoresScreen : Prop :=
  ∀ (x y : Reg) (n : Nibble) (s t u : State), x ≠ vf → y ≠ vf → exec (.displayDraw x y n) s = .next t →
    exec (.displayDraw x y n) t = .next u →
    u.framebuffer = s.framebuffer
    ∧ (u.getV vf = 1#8 ↔ ∃ r c, spriteCovers x y n s r c = true ∧ s.framebuffer.pixel r c = false)

/-! Random and timers (45), keyboard (46). -/

/-- CXNN: V[x] is the draw AND the immediate, so it has no bit outside the immediate; the draw is a free value, fresh at each
execution, and nothing is said of which (45 R220). The spec marks this meaning as general knowledge of its own (R220; D14); the
draw and its counter are the model's (log entry 3). -/
def Obligations.RandomIsMaskedDraw : Prop :=
  ∀ (x : Reg) (nn : Byte), decode (0xC#4 ++ x ++ nn) = .ok (.random x nn)
    ∧ ∀ s : State, ∃ t, exec (.random x nn) s = .next t ∧ t.getV x = Config.draw8 s.draws &&& nn ∧ t.draws = s.draws + 1
      ∧ (∀ b, nn.getLsbD b = false → (t.getV x).getLsbD b = false) ∧ t.pc = s.pc ∧ Frame { regs := [x], draws := true } s t

/-- FX07, FX15, FX18: V[x] from DT, DT from V[x], ST from V[x] (45 R221 to R223). The spec marks this meaning as general knowledge
of its own (R221 to R223; D15). -/
def Obligations.TimerMoves : Prop :=
  ∀ x : Reg,
    decode (0xF#4 ++ x ++ 0x07#8) = .ok (.getDelayTimer x) ∧ decode (0xF#4 ++ x ++ 0x15#8) = .ok (.setDelayTimer x)
    ∧ decode (0xF#4 ++ x ++ 0x18#8) = .ok (.setSoundTimer x)
    ∧ ∀ s : State,
      (∃ t, exec (.getDelayTimer x) s = .next t ∧ t.getV x = s.delayTimer ∧ t.pc = s.pc ∧ Frame { regs := [x] } s t)
      ∧ (∃ t, exec (.setDelayTimer x) s = .next t ∧ t.delayTimer = s.getV x ∧ t.pc = s.pc ∧ Frame { delay := true } s t)
      ∧ (∃ t, exec (.setSoundTimer x) s = .next t ∧ t.soundTimer = s.getV x ∧ t.pc = s.pc ∧ Frame { sound := true } s t)

/-- EX9E and EXA1: for a key number up to 15 in V[x] exactly one of them skips, by the key's flag; above 15 both report InvalidKey
with the whole value and neither skips (46 R240, R241, 60 R263). The spec marks this meaning as general knowledge of its own
(R240, R241; D15); an error as a next state is log entry 6. -/
def Obligations.KeySkips : Prop :=
  ∀ x : Reg,
    decode (0xE#4 ++ x ++ 0x9E#8) = .ok (.skipIfKeyPressed x) ∧ decode (0xE#4 ++ x ++ 0xA1#8) = .ok (.skipIfKeyNotPressed x)
    ∧ ∀ s : State,
      (∀ k : Nibble, (s.getV x).toNat = k.toNat →
        (∃ t, exec (.skipIfKeyPressed x) s = .next t ∧ t.pc = (if s.getKey k = true then s.pc + 2#16 else s.pc) ∧ Frame {} s t)
        ∧ (∃ t, exec (.skipIfKeyNotPressed x) s = .next t ∧ t.pc = (if s.getKey k = true then s.pc else s.pc + 2#16) ∧ Frame {} s t))
      ∧ (15 < (s.getV x).toNat → ∀ i, i = .skipIfKeyPressed x ∨ i = .skipIfKeyNotPressed x →
        ∃ t, exec i s = .next t ∧ t.result = .error (.invalidKey (s.getV x)) ∧ t.pc = s.pc ∧ Frame { result := true } s t)

/-- FX0A: the machine waits for a key for register x; no register is read or written, and pc stays after the instruction (46
R242). -/
def Obligations.WaitForKeyBegins : Prop :=
  ∀ x : Reg, decode (0xF#4 ++ x ++ 0x0A#8) = .ok (.waitForKey x)
    ∧ ∀ s : State, ∃ t, exec (.waitForKey x) s = .next t ∧ t.xs = .waitingForKey x ∧ t.pc = s.pc ∧ Frame { xs := true } s t

/-- The whole of a key wait: the step on an FX0A and then any number of steps and presses, after which the machine still waits
with pc after the FX0A, the pressed keys set and nothing else changed but the result; then the release of a valid key, which
delivers the key number to V[x], clears that key and makes the machine Ready, with nothing else changed over the whole wait (46
R242, 40 R111, 60 R274, R275). The operations come from the model's request list and leave the model's result field (log entries 4
and 5); a press of an invalid key, among the presses, is reported and the machine goes on (log entry 6). FX0A's pattern is the
spec's own (log entry 12). -/
def Obligations.KeyWaitDeliversReleasedKey : Prop :=
  ∀ (x : Reg) (k : Byte) (quiet : List Operation) (s : State), k.toNat ≤ 15 → s.xs = .ready → s.pc.toNat ≤ 0xFFE →
    assembleWord (s.readByte s.pc.toNat) (s.readByte (s.pc.toNat + 1)) = 0xF#4 ++ x ++ 0x0A#8 →
    (∀ op ∈ quiet, op = .stepInstruction ∨ ∃ j : Byte, op = .pressKey j) →
    s.requests = .stepInstruction :: (quiet ++ [.releaseKey k]) →
    (∃ u : State, core.run (quiet.length + 1) s = .next u ∧ u.xs = .waitingForKey x ∧ u.pc = s.pc + 2#16
      ∧ (∀ j ∈ pressedKeys quiet, u.getKey j = true)
      ∧ Frame { keys := pressedKeys quiet, xs := true, result := true } (s.setRequests [.releaseKey k]) u)
    ∧ ∃ t : State, core.run (quiet.length + 2) s = .next t ∧ t.getV x = k ∧ t.xs = .ready ∧ t.pc = s.pc + 2#16 ∧ t.result = .ok
      ∧ (∀ j : Nibble, j.toNat = k.toNat → t.getKey j = false)
      ∧ (∀ j ∈ pressedKeys quiet, j.toNat ≠ k.toNat → t.getKey j = true)
      ∧ Frame { regs := [x], keys := k.setWidth 4 :: pressedKeys quiet, result := true } (s.setRequests []) t

/-! Whole-machine rules. -/

/-- Every step keeps the invariant: memory canonical and inside RAM, pc at most 0x10FE, return addresses at most 0x1000, the stack
within `STACK_DEPTH` (20 R50; 10 R22, R24; 41 R133, R138). The bounds are inferred from R22, R50, R113, R133, R138; memory's
canonical form is the model's (log entry 9). -/
def Obligations.StepKeepsInvariant : Prop := ∀ s t : State, Inv s → step s = .next t → Inv t

/-- The state after reset meets the invariant. Memory's canonical form is the model's (log entry 9), the unbounded depth the
spec's default (log entry 2). -/
def Obligations.ResetMeetsInvariant : Prop := Inv State.reset

/-- Every good run, however long, from a state that meets the invariant ends in one that meets it. A good run is one without
errors and stops (R120, R265; log entries 6 and 7). -/
def Obligations.CleanRunKeepsInvariant : Prop := ∀ (n : Nat) (s t : State), Inv s → CleanRun n s t → Inv t

/-- In a state that meets the invariant the sequencer's advance never wraps: an instruction executes at most at 0x1000 (10 R22, 40
R113). -/
def Obligations.AdvanceNeverWraps : Prop :=
  ∀ (s : State) (op : Word), Inv s → s.fetch = some op →
    s.advancePc.pc.toNat = s.pc.toNat + 2 ∧ s.advancePc.pc.toNat ≤ 0x1000

/-- No operation changes the configuration (10 R31). That State carries the configuration is log entry 1. -/
def Obligations.ConfigurationNeverChanges : Prop := ∀ s t : State, step s = .next t → t.cfg = s.cfg

/-- An instruction changes no register but its destinations and, for the seven flag writers, VF; so every other instruction leaves
VF unchanged unless it names V[0xF] as its destination (10 R21, 40 R116). -/
def Obligations.OnlyFlagWritersTouchFlag : Prop :=
  ∀ (i : Instr) (s t : State), exec i s = .next t →
    ∀ r, r ∉ destinations i → (writesFlag i = false ∨ r ≠ vf) → t.getV r = s.getV r

/-- Each state element has its own instructions: the stack only 2NNN and 00EE, I only ANNN, FX1E, FX29, FX55, FX65, DT only FX15,
ST only FX18, memory only FX33 and FX55, the screen only 00E0 and DXYN, the execution state only FX0A, the keys none (10 R23 to
R30; 20 R55). -/
def Obligations.StateElementWriters : Prop :=
  ∀ (i : Instr) (s t : State), exec i s = .next t →
    ((∀ nnn, i ≠ .subroutineCall nnn) → i ≠ .subroutineReturn → t.stack = s.stack)
    ∧ ((∀ nnn, i ≠ .setIndex nnn) → (∀ x, i ≠ .addToIndex x ∧ i ≠ .setIndexToCharacter x ∧ i ≠ .storeRegisters x ∧ i ≠ .loadRegisters x) →
      t.index = s.index)
    ∧ ((∀ x, i ≠ .setDelayTimer x) → t.delayTimer = s.delayTimer)
    ∧ ((∀ x, i ≠ .setSoundTimer x) → t.soundTimer = s.soundTimer)
    ∧ ((∀ x, i ≠ .storeBcd x ∧ i ≠ .storeRegisters x) → t.memory = s.memory)
    ∧ (i ≠ .displayClear → (∀ x y n, i ≠ .displayDraw x y n) → t.framebuffer = s.framebuffer)
    ∧ ((∀ x, i ≠ .waitForKey x) → t.xs = s.xs)
    ∧ t.keys = s.keys

/-- The toggles are read by no instruction but those of the four families: every other one does the same under every setting (40
R119). That State carries the toggles is log entry 1. -/
def Obligations.OnlyFourFamiliesReadToggles : Prop :=
  ∀ (i : Instr) (s : State) (a b c d : Bool), readsToggles i = false →
    exec i (withToggles a b c d s) = mapState (withToggles a b c d) (exec i s)

/-- Nothing in the core reads the result of an earlier operation: a step does the same whatever it was (10 R32, 60 R268). The
result field is the model's own (log entry 5). -/
def Obligations.ResultIsNeverRead : Prop := ∀ (s : State) (r : OpResult), step (s.setResult r) = step s

/-- The delay timer does not gate stepping: but for FX07, which reads it, `step_instruction()` from two states that differ in DT
alone ends in the same way, in states that differ in DT alone (40 R118); and no instruction reads ST (10 R26). It is the spec's
decision D17 (log entry 17). -/
def Obligations.TimersDoNotGateStepping : Prop :=
  (∀ (i : Instr) (s : State) (d : Byte), (∀ x, i ≠ .getDelayTimer x) →
    mapState (·.setDelay 0#8) (exec i (s.setDelay d)) = mapState (·.setDelay 0#8) (exec i s))
  ∧ (∀ (s : State) (d : Byte), (∀ op x, s.fetch = some op → decode op ≠ .ok (.getDelayTimer x)) →
    mapState (·.setDelay 0#8) (stepInstruction (s.setDelay d)) = mapState (·.setDelay 0#8) (stepInstruction s))
  ∧ (∀ (i : Instr) (s : State) (d : Byte),
    mapState (·.setSound 0#8) (exec i (s.setSound d)) = mapState (·.setSound 0#8) (exec i s))

/-- Each instruction can report at most one kind of error, and only DXYN, FX33, FX55, FX65 can stop the machine; none is refused;
a state reported with an error is otherwise unchanged (60 R268, R270, R271). An error as a next state is log entry 6, that
MemoryOutOfRange stops is log entry 7. -/
def Obligations.ErrorsByInstruction : Prop :=
  ∀ (i : Instr) (s : State),
    (∃ t, exec i s = .next t ∧ t.result = s.result)
    ∨ (∃ e, MayReport i s e ∧ exec i s = .next (s.setResult (.error e)))
    ∨ (∃ a, 0x1000 ≤ a ∧ MayFault i ∧ exec i s = .fault (.memoryOutOfRange a s))
end

