-- ==== Sys2Proof/Laws/Decode.lean ====
section
/-! SUPPORT. The laws of the splitter and of byte order: the fields of a word put together from its parts, and a word from its fields. -/

namespace Sys2Proof

/-- The fields of a word of four nibbles (30 R81). -/
@[simp] theorem splitOpcode_nibbles (i x y n : BitVec 4) :
    splitOpcode (i ++ x ++ y ++ n) = ⟨i, x, y, n, y ++ n, x ++ y ++ n⟩ := by
  simp only [splitOpcode, Fields.mk.injEq]
  refine ⟨?_, ?_, ?_, ?_, ?_, ?_⟩ <;> apply BitVec.eq_of_getLsbD_eq <;> intro k hk <;> interval_cases k <;>
    simp only [BitVec.getLsbD_append, BitVec.getLsbD_extractLsb'] <;> simp

/-- A byte is its two nibbles. -/
theorem byte_eq_nibbles (nn : BitVec 8) : nn.extractLsb' 4 4 ++ nn.extractLsb' 0 4 = nn := by
  apply BitVec.eq_of_getLsbD_eq
  intro k hk
  interval_cases k <;> simp only [BitVec.getLsbD_append, BitVec.getLsbD_extractLsb'] <;> simp

/-- A 12-bit address is its three nibbles. -/
theorem addr_eq_nibbles (nnn : BitVec 12) : nnn.extractLsb' 8 4 ++ nnn.extractLsb' 4 4 ++ nnn.extractLsb' 0 4 = nnn := by
  apply BitVec.eq_of_getLsbD_eq
  intro k hk
  interval_cases k <;> simp only [BitVec.getLsbD_append, BitVec.getLsbD_extractLsb'] <;> simp

/-- The fields of a word with an 8-bit immediate (format XNN, 30 R82). -/
@[simp] theorem splitOpcode_xnn (i x : BitVec 4) (nn : BitVec 8) :
    splitOpcode (i ++ x ++ nn : Word) = ⟨i, x, nn.extractLsb' 4 4, nn.extractLsb' 0 4, nn, x ++ nn⟩ := by
  simp only [splitOpcode, Fields.mk.injEq]
  refine ⟨?_, ?_, ?_, ?_, ?_, ?_⟩ <;> apply BitVec.eq_of_getLsbD_eq <;> intro k hk <;> interval_cases k <;>
    simp only [BitVec.getLsbD_append, BitVec.getLsbD_extractLsb'] <;> simp

/-- The fields of a word with a 12-bit address (format NNN, 30 R82). -/
@[simp] theorem splitOpcode_nnn (i : BitVec 4) (nnn : BitVec 12) :
    splitOpcode (i ++ nnn : Word) =
      ⟨i, nnn.extractLsb' 8 4, nnn.extractLsb' 4 4, nnn.extractLsb' 0 4, nnn.extractLsb' 0 8, nnn⟩ := by
  simp only [splitOpcode, Fields.mk.injEq]
  refine ⟨?_, ?_, ?_, ?_, ?_, ?_⟩ <;> apply BitVec.eq_of_getLsbD_eq <;> intro k hk <;> interval_cases k <;>
    simp only [BitVec.getLsbD_append, BitVec.getLsbD_extractLsb'] <;> simp

/-- A word is its four nibbles. -/
theorem word_eq_nibbles (op : Word) : (splitOpcode op).i ++ (splitOpcode op).x ++ (splitOpcode op).y ++ (splitOpcode op).n = op := by
  apply BitVec.eq_of_getLsbD_eq
  intro k hk
  interval_cases k <;> simp only [splitOpcode, BitVec.getLsbD_append, BitVec.getLsbD_extractLsb'] <;> simp

/-- A word is its major opcode, its register and its immediate. -/
theorem word_eq_xnn (op : Word) : ((splitOpcode op).i ++ (splitOpcode op).x ++ (splitOpcode op).nn : Word) = op := by
  apply BitVec.eq_of_getLsbD_eq
  intro k hk
  interval_cases k <;> simp only [splitOpcode, BitVec.getLsbD_append, BitVec.getLsbD_extractLsb'] <;> simp

/-- A word is its major opcode and its address. -/
theorem word_eq_nnn (op : Word) : ((splitOpcode op).i ++ (splitOpcode op).nnn : Word) = op := by
  apply BitVec.eq_of_getLsbD_eq
  intro k hk
  interval_cases k <;> simp only [splitOpcode, BitVec.getLsbD_append, BitVec.getLsbD_extractLsb'] <;> simp

/-- The bytes of a word put together give the word (20 R53). -/
@[simp] theorem assembleWord_bytes (op : Word) : assembleWord (highByte op) (lowByte op) = op := by
  apply BitVec.eq_of_getLsbD_eq
  intro k hk
  interval_cases k <;> simp only [assembleWord, highByte, lowByte, BitVec.getLsbD_append, BitVec.getLsbD_extractLsb'] <;> simp

/-- A word whose major opcode is not 0 is none of the two FIXED words (30 R84). -/
theorem not_fixed_of_major {op : Word} (h : (splitOpcode op).i ≠ 0x0#4) : op ≠ 0x00E0#16 ∧ op ≠ 0x00EE#16 := by
  constructor <;> rintro rfl <;> exact h (by decide)

/-- A word whose major opcode is not 0 is decoded by its major opcode. -/
theorem decode_of_major {op : Word} (h : (splitOpcode op).i ≠ 0x0#4) : decode op = decodeByMajor op (splitOpcode op) := by
  rw [decode, if_neg (not_fixed_of_major h).1, if_neg (not_fixed_of_major h).2]

/-- A word with major opcode 0 is a FIXED word exactly when its address is the FIXED one (30 R87). -/
theorem fixed_iff (nnn : Addr12) :
    ((0x0#4 ++ nnn : Word) = 0x00E0#16 ↔ nnn = 0x0E0#12) ∧ ((0x0#4 ++ nnn : Word) = 0x00EE#16 ↔ nnn = 0x0EE#12) := by
  refine ⟨⟨fun h => ?_, fun h => by rw [h]; decide⟩, ⟨fun h => ?_, fun h => by rw [h]; decide⟩⟩
  all_goals
    have h' := congrArg (fun op => (splitOpcode op).nnn) h
    simp only [splitOpcode_nnn] at h'
    rw [h']; decide

/-- The system space (30 R87). -/
theorem decode_system_word {nnn : Addr12} (h1 : nnn ≠ 0x0E0#12) (h2 : nnn ≠ 0x0EE#12) :
    decode (0x0#4 ++ nnn) = .ok (.system nnn) := by
  rw [decode, if_neg (mt (fixed_iff nnn).1.mp h1), if_neg (mt (fixed_iff nnn).2.mp h2)]
  simp [decodeByMajor]

end Sys2Proof
end

