-- ==== Sys2Proof/Laws/State.lean ====
section
/-! SUPPORT. The small lemmas of the state's updates: one per field per update, and the reads through the accessors; all true by rfl but the register and key laws. -/

namespace Sys2Proof.Machine

variable (s : State)

/-! Fields after `setV`. -/

@[simp] theorem State.setV_V (r : Reg) (v : Byte) : (s.setV r v).V = s.V.set r.toNat v r.isLt := rfl
@[simp] theorem State.setV_index (r : Reg) (v : Byte) : (s.setV r v).index = s.index := rfl
@[simp] theorem State.setV_pc (r : Reg) (v : Byte) : (s.setV r v).pc = s.pc := rfl
@[simp] theorem State.setV_stack (r : Reg) (v : Byte) : (s.setV r v).stack = s.stack := rfl
@[simp] theorem State.setV_delayTimer (r : Reg) (v : Byte) : (s.setV r v).delayTimer = s.delayTimer := rfl
@[simp] theorem State.setV_soundTimer (r : Reg) (v : Byte) : (s.setV r v).soundTimer = s.soundTimer := rfl
@[simp] theorem State.setV_memory (r : Reg) (v : Byte) : (s.setV r v).memory = s.memory := rfl
@[simp] theorem State.setV_framebuffer (r : Reg) (v : Byte) : (s.setV r v).framebuffer = s.framebuffer := rfl
@[simp] theorem State.setV_keys (r : Reg) (v : Byte) : (s.setV r v).keys = s.keys := rfl
@[simp] theorem State.setV_xs (r : Reg) (v : Byte) : (s.setV r v).xs = s.xs := rfl
@[simp] theorem State.setV_cfg (r : Reg) (v : Byte) : (s.setV r v).cfg = s.cfg := rfl
@[simp] theorem State.setV_draws (r : Reg) (v : Byte) : (s.setV r v).draws = s.draws := rfl
@[simp] theorem State.setV_requests (r : Reg) (v : Byte) : (s.setV r v).requests = s.requests := rfl
@[simp] theorem State.setV_arrivals (r : Reg) (v : Byte) : (s.setV r v).arrivals = s.arrivals := rfl
@[simp] theorem State.setV_result (r : Reg) (v : Byte) : (s.setV r v).result = s.result := rfl
@[simp] theorem State.setV_getKey (r : Reg) (v : Byte) (q : Nibble) : (s.setV r v).getKey q = s.getKey q := rfl
@[simp] theorem State.setV_readByte (r : Reg) (v : Byte) (a : Nat) : (s.setV r v).readByte a = s.readByte a := rfl

/-! Fields after `setAllV`. -/

@[simp] theorem State.setAllV_V (v : Vector Byte 16) : (s.setAllV v).V = v := rfl
@[simp] theorem State.setAllV_index (v : Vector Byte 16) : (s.setAllV v).index = s.index := rfl
@[simp] theorem State.setAllV_pc (v : Vector Byte 16) : (s.setAllV v).pc = s.pc := rfl
@[simp] theorem State.setAllV_stack (v : Vector Byte 16) : (s.setAllV v).stack = s.stack := rfl
@[simp] theorem State.setAllV_delayTimer (v : Vector Byte 16) : (s.setAllV v).delayTimer = s.delayTimer := rfl
@[simp] theorem State.setAllV_soundTimer (v : Vector Byte 16) : (s.setAllV v).soundTimer = s.soundTimer := rfl
@[simp] theorem State.setAllV_memory (v : Vector Byte 16) : (s.setAllV v).memory = s.memory := rfl
@[simp] theorem State.setAllV_framebuffer (v : Vector Byte 16) : (s.setAllV v).framebuffer = s.framebuffer := rfl
@[simp] theorem State.setAllV_keys (v : Vector Byte 16) : (s.setAllV v).keys = s.keys := rfl
@[simp] theorem State.setAllV_xs (v : Vector Byte 16) : (s.setAllV v).xs = s.xs := rfl
@[simp] theorem State.setAllV_cfg (v : Vector Byte 16) : (s.setAllV v).cfg = s.cfg := rfl
@[simp] theorem State.setAllV_draws (v : Vector Byte 16) : (s.setAllV v).draws = s.draws := rfl
@[simp] theorem State.setAllV_requests (v : Vector Byte 16) : (s.setAllV v).requests = s.requests := rfl
@[simp] theorem State.setAllV_arrivals (v : Vector Byte 16) : (s.setAllV v).arrivals = s.arrivals := rfl
@[simp] theorem State.setAllV_result (v : Vector Byte 16) : (s.setAllV v).result = s.result := rfl
@[simp] theorem State.setAllV_getKey (v : Vector Byte 16) (q : Nibble) : (s.setAllV v).getKey q = s.getKey q := rfl
@[simp] theorem State.setAllV_readByte (v : Vector Byte 16) (a : Nat) : (s.setAllV v).readByte a = s.readByte a := rfl

/-! Fields after `setPc`. -/

@[simp] theorem State.setPc_V (v : Word) : (s.setPc v).V = s.V := rfl
@[simp] theorem State.setPc_index (v : Word) : (s.setPc v).index = s.index := rfl
@[simp] theorem State.setPc_pc (v : Word) : (s.setPc v).pc = v := rfl
@[simp] theorem State.setPc_stack (v : Word) : (s.setPc v).stack = s.stack := rfl
@[simp] theorem State.setPc_delayTimer (v : Word) : (s.setPc v).delayTimer = s.delayTimer := rfl
@[simp] theorem State.setPc_soundTimer (v : Word) : (s.setPc v).soundTimer = s.soundTimer := rfl
@[simp] theorem State.setPc_memory (v : Word) : (s.setPc v).memory = s.memory := rfl
@[simp] theorem State.setPc_framebuffer (v : Word) : (s.setPc v).framebuffer = s.framebuffer := rfl
@[simp] theorem State.setPc_keys (v : Word) : (s.setPc v).keys = s.keys := rfl
@[simp] theorem State.setPc_xs (v : Word) : (s.setPc v).xs = s.xs := rfl
@[simp] theorem State.setPc_cfg (v : Word) : (s.setPc v).cfg = s.cfg := rfl
@[simp] theorem State.setPc_draws (v : Word) : (s.setPc v).draws = s.draws := rfl
@[simp] theorem State.setPc_requests (v : Word) : (s.setPc v).requests = s.requests := rfl
@[simp] theorem State.setPc_arrivals (v : Word) : (s.setPc v).arrivals = s.arrivals := rfl
@[simp] theorem State.setPc_result (v : Word) : (s.setPc v).result = s.result := rfl
@[simp] theorem State.setPc_getV (v : Word) (q : Reg) : (s.setPc v).getV q = s.getV q := rfl
@[simp] theorem State.setPc_getKey (v : Word) (q : Nibble) : (s.setPc v).getKey q = s.getKey q := rfl
@[simp] theorem State.setPc_readByte (v : Word) (a : Nat) : (s.setPc v).readByte a = s.readByte a := rfl

/-! Fields after `setIndex`. -/

@[simp] theorem State.setIndex_V (v : Word) : (s.setIndex v).V = s.V := rfl
@[simp] theorem State.setIndex_index (v : Word) : (s.setIndex v).index = v := rfl
@[simp] theorem State.setIndex_pc (v : Word) : (s.setIndex v).pc = s.pc := rfl
@[simp] theorem State.setIndex_stack (v : Word) : (s.setIndex v).stack = s.stack := rfl
@[simp] theorem State.setIndex_delayTimer (v : Word) : (s.setIndex v).delayTimer = s.delayTimer := rfl
@[simp] theorem State.setIndex_soundTimer (v : Word) : (s.setIndex v).soundTimer = s.soundTimer := rfl
@[simp] theorem State.setIndex_memory (v : Word) : (s.setIndex v).memory = s.memory := rfl
@[simp] theorem State.setIndex_framebuffer (v : Word) : (s.setIndex v).framebuffer = s.framebuffer := rfl
@[simp] theorem State.setIndex_keys (v : Word) : (s.setIndex v).keys = s.keys := rfl
@[simp] theorem State.setIndex_xs (v : Word) : (s.setIndex v).xs = s.xs := rfl
@[simp] theorem State.setIndex_cfg (v : Word) : (s.setIndex v).cfg = s.cfg := rfl
@[simp] theorem State.setIndex_draws (v : Word) : (s.setIndex v).draws = s.draws := rfl
@[simp] theorem State.setIndex_requests (v : Word) : (s.setIndex v).requests = s.requests := rfl
@[simp] theorem State.setIndex_arrivals (v : Word) : (s.setIndex v).arrivals = s.arrivals := rfl
@[simp] theorem State.setIndex_result (v : Word) : (s.setIndex v).result = s.result := rfl
@[simp] theorem State.setIndex_getV (v : Word) (q : Reg) : (s.setIndex v).getV q = s.getV q := rfl
@[simp] theorem State.setIndex_getKey (v : Word) (q : Nibble) : (s.setIndex v).getKey q = s.getKey q := rfl
@[simp] theorem State.setIndex_readByte (v : Word) (a : Nat) : (s.setIndex v).readByte a = s.readByte a := rfl

/-! Fields after `setStack`. -/

@[simp] theorem State.setStack_V (v : List Word) : (s.setStack v).V = s.V := rfl
@[simp] theorem State.setStack_index (v : List Word) : (s.setStack v).index = s.index := rfl
@[simp] theorem State.setStack_pc (v : List Word) : (s.setStack v).pc = s.pc := rfl
@[simp] theorem State.setStack_stack (v : List Word) : (s.setStack v).stack = v := rfl
@[simp] theorem State.setStack_delayTimer (v : List Word) : (s.setStack v).delayTimer = s.delayTimer := rfl
@[simp] theorem State.setStack_soundTimer (v : List Word) : (s.setStack v).soundTimer = s.soundTimer := rfl
@[simp] theorem State.setStack_memory (v : List Word) : (s.setStack v).memory = s.memory := rfl
@[simp] theorem State.setStack_framebuffer (v : List Word) : (s.setStack v).framebuffer = s.framebuffer := rfl
@[simp] theorem State.setStack_keys (v : List Word) : (s.setStack v).keys = s.keys := rfl
@[simp] theorem State.setStack_xs (v : List Word) : (s.setStack v).xs = s.xs := rfl
@[simp] theorem State.setStack_cfg (v : List Word) : (s.setStack v).cfg = s.cfg := rfl
@[simp] theorem State.setStack_draws (v : List Word) : (s.setStack v).draws = s.draws := rfl
@[simp] theorem State.setStack_requests (v : List Word) : (s.setStack v).requests = s.requests := rfl
@[simp] theorem State.setStack_arrivals (v : List Word) : (s.setStack v).arrivals = s.arrivals := rfl
@[simp] theorem State.setStack_result (v : List Word) : (s.setStack v).result = s.result := rfl
@[simp] theorem State.setStack_getV (v : List Word) (q : Reg) : (s.setStack v).getV q = s.getV q := rfl
@[simp] theorem State.setStack_getKey (v : List Word) (q : Nibble) : (s.setStack v).getKey q = s.getKey q := rfl
@[simp] theorem State.setStack_readByte (v : List Word) (a : Nat) : (s.setStack v).readByte a = s.readByte a := rfl

/-! Fields after `setDelay`. -/

@[simp] theorem State.setDelay_V (v : Byte) : (s.setDelay v).V = s.V := rfl
@[simp] theorem State.setDelay_index (v : Byte) : (s.setDelay v).index = s.index := rfl
@[simp] theorem State.setDelay_pc (v : Byte) : (s.setDelay v).pc = s.pc := rfl
@[simp] theorem State.setDelay_stack (v : Byte) : (s.setDelay v).stack = s.stack := rfl
@[simp] theorem State.setDelay_delayTimer (v : Byte) : (s.setDelay v).delayTimer = v := rfl
@[simp] theorem State.setDelay_soundTimer (v : Byte) : (s.setDelay v).soundTimer = s.soundTimer := rfl
@[simp] theorem State.setDelay_memory (v : Byte) : (s.setDelay v).memory = s.memory := rfl
@[simp] theorem State.setDelay_framebuffer (v : Byte) : (s.setDelay v).framebuffer = s.framebuffer := rfl
@[simp] theorem State.setDelay_keys (v : Byte) : (s.setDelay v).keys = s.keys := rfl
@[simp] theorem State.setDelay_xs (v : Byte) : (s.setDelay v).xs = s.xs := rfl
@[simp] theorem State.setDelay_cfg (v : Byte) : (s.setDelay v).cfg = s.cfg := rfl
@[simp] theorem State.setDelay_draws (v : Byte) : (s.setDelay v).draws = s.draws := rfl
@[simp] theorem State.setDelay_requests (v : Byte) : (s.setDelay v).requests = s.requests := rfl
@[simp] theorem State.setDelay_arrivals (v : Byte) : (s.setDelay v).arrivals = s.arrivals := rfl
@[simp] theorem State.setDelay_result (v : Byte) : (s.setDelay v).result = s.result := rfl
@[simp] theorem State.setDelay_getV (v : Byte) (q : Reg) : (s.setDelay v).getV q = s.getV q := rfl
@[simp] theorem State.setDelay_getKey (v : Byte) (q : Nibble) : (s.setDelay v).getKey q = s.getKey q := rfl
@[simp] theorem State.setDelay_readByte (v : Byte) (a : Nat) : (s.setDelay v).readByte a = s.readByte a := rfl

/-! Fields after `setSound`. -/

@[simp] theorem State.setSound_V (v : Byte) : (s.setSound v).V = s.V := rfl
@[simp] theorem State.setSound_index (v : Byte) : (s.setSound v).index = s.index := rfl
@[simp] theorem State.setSound_pc (v : Byte) : (s.setSound v).pc = s.pc := rfl
@[simp] theorem State.setSound_stack (v : Byte) : (s.setSound v).stack = s.stack := rfl
@[simp] theorem State.setSound_delayTimer (v : Byte) : (s.setSound v).delayTimer = s.delayTimer := rfl
@[simp] theorem State.setSound_soundTimer (v : Byte) : (s.setSound v).soundTimer = v := rfl
@[simp] theorem State.setSound_memory (v : Byte) : (s.setSound v).memory = s.memory := rfl
@[simp] theorem State.setSound_framebuffer (v : Byte) : (s.setSound v).framebuffer = s.framebuffer := rfl
@[simp] theorem State.setSound_keys (v : Byte) : (s.setSound v).keys = s.keys := rfl
@[simp] theorem State.setSound_xs (v : Byte) : (s.setSound v).xs = s.xs := rfl
@[simp] theorem State.setSound_cfg (v : Byte) : (s.setSound v).cfg = s.cfg := rfl
@[simp] theorem State.setSound_draws (v : Byte) : (s.setSound v).draws = s.draws := rfl
@[simp] theorem State.setSound_requests (v : Byte) : (s.setSound v).requests = s.requests := rfl
@[simp] theorem State.setSound_arrivals (v : Byte) : (s.setSound v).arrivals = s.arrivals := rfl
@[simp] theorem State.setSound_result (v : Byte) : (s.setSound v).result = s.result := rfl
@[simp] theorem State.setSound_getV (v : Byte) (q : Reg) : (s.setSound v).getV q = s.getV q := rfl
@[simp] theorem State.setSound_getKey (v : Byte) (q : Nibble) : (s.setSound v).getKey q = s.getKey q := rfl
@[simp] theorem State.setSound_readByte (v : Byte) (a : Nat) : (s.setSound v).readByte a = s.readByte a := rfl

/-! Fields after `setMemory`. -/

@[simp] theorem State.setMemory_V (v : Memory) : (s.setMemory v).V = s.V := rfl
@[simp] theorem State.setMemory_index (v : Memory) : (s.setMemory v).index = s.index := rfl
@[simp] theorem State.setMemory_pc (v : Memory) : (s.setMemory v).pc = s.pc := rfl
@[simp] theorem State.setMemory_stack (v : Memory) : (s.setMemory v).stack = s.stack := rfl
@[simp] theorem State.setMemory_delayTimer (v : Memory) : (s.setMemory v).delayTimer = s.delayTimer := rfl
@[simp] theorem State.setMemory_soundTimer (v : Memory) : (s.setMemory v).soundTimer = s.soundTimer := rfl
@[simp] theorem State.setMemory_memory (v : Memory) : (s.setMemory v).memory = v := rfl
@[simp] theorem State.setMemory_framebuffer (v : Memory) : (s.setMemory v).framebuffer = s.framebuffer := rfl
@[simp] theorem State.setMemory_keys (v : Memory) : (s.setMemory v).keys = s.keys := rfl
@[simp] theorem State.setMemory_xs (v : Memory) : (s.setMemory v).xs = s.xs := rfl
@[simp] theorem State.setMemory_cfg (v : Memory) : (s.setMemory v).cfg = s.cfg := rfl
@[simp] theorem State.setMemory_draws (v : Memory) : (s.setMemory v).draws = s.draws := rfl
@[simp] theorem State.setMemory_requests (v : Memory) : (s.setMemory v).requests = s.requests := rfl
@[simp] theorem State.setMemory_arrivals (v : Memory) : (s.setMemory v).arrivals = s.arrivals := rfl
@[simp] theorem State.setMemory_result (v : Memory) : (s.setMemory v).result = s.result := rfl
@[simp] theorem State.setMemory_getV (v : Memory) (q : Reg) : (s.setMemory v).getV q = s.getV q := rfl
@[simp] theorem State.setMemory_getKey (v : Memory) (q : Nibble) : (s.setMemory v).getKey q = s.getKey q := rfl
@[simp] theorem State.setMemory_readByte (v : Memory) (a : Nat) : (s.setMemory v).readByte a = Memory.read v a := rfl

/-! Fields after `setFramebuffer`. -/

@[simp] theorem State.setFramebuffer_V (v : Framebuffer) : (s.setFramebuffer v).V = s.V := rfl
@[simp] theorem State.setFramebuffer_index (v : Framebuffer) : (s.setFramebuffer v).index = s.index := rfl
@[simp] theorem State.setFramebuffer_pc (v : Framebuffer) : (s.setFramebuffer v).pc = s.pc := rfl
@[simp] theorem State.setFramebuffer_stack (v : Framebuffer) : (s.setFramebuffer v).stack = s.stack := rfl
@[simp] theorem State.setFramebuffer_delayTimer (v : Framebuffer) : (s.setFramebuffer v).delayTimer = s.delayTimer := rfl
@[simp] theorem State.setFramebuffer_soundTimer (v : Framebuffer) : (s.setFramebuffer v).soundTimer = s.soundTimer := rfl
@[simp] theorem State.setFramebuffer_memory (v : Framebuffer) : (s.setFramebuffer v).memory = s.memory := rfl
@[simp] theorem State.setFramebuffer_framebuffer (v : Framebuffer) : (s.setFramebuffer v).framebuffer = v := rfl
@[simp] theorem State.setFramebuffer_keys (v : Framebuffer) : (s.setFramebuffer v).keys = s.keys := rfl
@[simp] theorem State.setFramebuffer_xs (v : Framebuffer) : (s.setFramebuffer v).xs = s.xs := rfl
@[simp] theorem State.setFramebuffer_cfg (v : Framebuffer) : (s.setFramebuffer v).cfg = s.cfg := rfl
@[simp] theorem State.setFramebuffer_draws (v : Framebuffer) : (s.setFramebuffer v).draws = s.draws := rfl
@[simp] theorem State.setFramebuffer_requests (v : Framebuffer) : (s.setFramebuffer v).requests = s.requests := rfl
@[simp] theorem State.setFramebuffer_arrivals (v : Framebuffer) : (s.setFramebuffer v).arrivals = s.arrivals := rfl
@[simp] theorem State.setFramebuffer_result (v : Framebuffer) : (s.setFramebuffer v).result = s.result := rfl
@[simp] theorem State.setFramebuffer_getV (v : Framebuffer) (q : Reg) : (s.setFramebuffer v).getV q = s.getV q := rfl
@[simp] theorem State.setFramebuffer_getKey (v : Framebuffer) (q : Nibble) : (s.setFramebuffer v).getKey q = s.getKey q := rfl
@[simp] theorem State.setFramebuffer_readByte (v : Framebuffer) (a : Nat) : (s.setFramebuffer v).readByte a = s.readByte a := rfl

/-! Fields after `setKey`. -/

@[simp] theorem State.setKey_V (k : Nibble) (b : Bool) : (s.setKey k b).V = s.V := rfl
@[simp] theorem State.setKey_index (k : Nibble) (b : Bool) : (s.setKey k b).index = s.index := rfl
@[simp] theorem State.setKey_pc (k : Nibble) (b : Bool) : (s.setKey k b).pc = s.pc := rfl
@[simp] theorem State.setKey_stack (k : Nibble) (b : Bool) : (s.setKey k b).stack = s.stack := rfl
@[simp] theorem State.setKey_delayTimer (k : Nibble) (b : Bool) : (s.setKey k b).delayTimer = s.delayTimer := rfl
@[simp] theorem State.setKey_soundTimer (k : Nibble) (b : Bool) : (s.setKey k b).soundTimer = s.soundTimer := rfl
@[simp] theorem State.setKey_memory (k : Nibble) (b : Bool) : (s.setKey k b).memory = s.memory := rfl
@[simp] theorem State.setKey_framebuffer (k : Nibble) (b : Bool) : (s.setKey k b).framebuffer = s.framebuffer := rfl
@[simp] theorem State.setKey_keys (k : Nibble) (b : Bool) : (s.setKey k b).keys = s.keys.set k.toNat b k.isLt := rfl
@[simp] theorem State.setKey_xs (k : Nibble) (b : Bool) : (s.setKey k b).xs = s.xs := rfl
@[simp] theorem State.setKey_cfg (k : Nibble) (b : Bool) : (s.setKey k b).cfg = s.cfg := rfl
@[simp] theorem State.setKey_draws (k : Nibble) (b : Bool) : (s.setKey k b).draws = s.draws := rfl
@[simp] theorem State.setKey_requests (k : Nibble) (b : Bool) : (s.setKey k b).requests = s.requests := rfl
@[simp] theorem State.setKey_arrivals (k : Nibble) (b : Bool) : (s.setKey k b).arrivals = s.arrivals := rfl
@[simp] theorem State.setKey_result (k : Nibble) (b : Bool) : (s.setKey k b).result = s.result := rfl
@[simp] theorem State.setKey_getV (k : Nibble) (b : Bool) (q : Reg) : (s.setKey k b).getV q = s.getV q := rfl
@[simp] theorem State.setKey_readByte (k : Nibble) (b : Bool) (a : Nat) : (s.setKey k b).readByte a = s.readByte a := rfl

/-! Fields after `setXs`. -/

@[simp] theorem State.setXs_V (v : ExecState) : (s.setXs v).V = s.V := rfl
@[simp] theorem State.setXs_index (v : ExecState) : (s.setXs v).index = s.index := rfl
@[simp] theorem State.setXs_pc (v : ExecState) : (s.setXs v).pc = s.pc := rfl
@[simp] theorem State.setXs_stack (v : ExecState) : (s.setXs v).stack = s.stack := rfl
@[simp] theorem State.setXs_delayTimer (v : ExecState) : (s.setXs v).delayTimer = s.delayTimer := rfl
@[simp] theorem State.setXs_soundTimer (v : ExecState) : (s.setXs v).soundTimer = s.soundTimer := rfl
@[simp] theorem State.setXs_memory (v : ExecState) : (s.setXs v).memory = s.memory := rfl
@[simp] theorem State.setXs_framebuffer (v : ExecState) : (s.setXs v).framebuffer = s.framebuffer := rfl
@[simp] theorem State.setXs_keys (v : ExecState) : (s.setXs v).keys = s.keys := rfl
@[simp] theorem State.setXs_xs (v : ExecState) : (s.setXs v).xs = v := rfl
@[simp] theorem State.setXs_cfg (v : ExecState) : (s.setXs v).cfg = s.cfg := rfl
@[simp] theorem State.setXs_draws (v : ExecState) : (s.setXs v).draws = s.draws := rfl
@[simp] theorem State.setXs_requests (v : ExecState) : (s.setXs v).requests = s.requests := rfl
@[simp] theorem State.setXs_arrivals (v : ExecState) : (s.setXs v).arrivals = s.arrivals := rfl
@[simp] theorem State.setXs_result (v : ExecState) : (s.setXs v).result = s.result := rfl
@[simp] theorem State.setXs_getV (v : ExecState) (q : Reg) : (s.setXs v).getV q = s.getV q := rfl
@[simp] theorem State.setXs_getKey (v : ExecState) (q : Nibble) : (s.setXs v).getKey q = s.getKey q := rfl
@[simp] theorem State.setXs_readByte (v : ExecState) (a : Nat) : (s.setXs v).readByte a = s.readByte a := rfl

/-! Fields after `setDraws`. -/

@[simp] theorem State.setDraws_V (v : Nat) : (s.setDraws v).V = s.V := rfl
@[simp] theorem State.setDraws_index (v : Nat) : (s.setDraws v).index = s.index := rfl
@[simp] theorem State.setDraws_pc (v : Nat) : (s.setDraws v).pc = s.pc := rfl
@[simp] theorem State.setDraws_stack (v : Nat) : (s.setDraws v).stack = s.stack := rfl
@[simp] theorem State.setDraws_delayTimer (v : Nat) : (s.setDraws v).delayTimer = s.delayTimer := rfl
@[simp] theorem State.setDraws_soundTimer (v : Nat) : (s.setDraws v).soundTimer = s.soundTimer := rfl
@[simp] theorem State.setDraws_memory (v : Nat) : (s.setDraws v).memory = s.memory := rfl
@[simp] theorem State.setDraws_framebuffer (v : Nat) : (s.setDraws v).framebuffer = s.framebuffer := rfl
@[simp] theorem State.setDraws_keys (v : Nat) : (s.setDraws v).keys = s.keys := rfl
@[simp] theorem State.setDraws_xs (v : Nat) : (s.setDraws v).xs = s.xs := rfl
@[simp] theorem State.setDraws_cfg (v : Nat) : (s.setDraws v).cfg = s.cfg := rfl
@[simp] theorem State.setDraws_draws (v : Nat) : (s.setDraws v).draws = v := rfl
@[simp] theorem State.setDraws_requests (v : Nat) : (s.setDraws v).requests = s.requests := rfl
@[simp] theorem State.setDraws_arrivals (v : Nat) : (s.setDraws v).arrivals = s.arrivals := rfl
@[simp] theorem State.setDraws_result (v : Nat) : (s.setDraws v).result = s.result := rfl
@[simp] theorem State.setDraws_getV (v : Nat) (q : Reg) : (s.setDraws v).getV q = s.getV q := rfl
@[simp] theorem State.setDraws_getKey (v : Nat) (q : Nibble) : (s.setDraws v).getKey q = s.getKey q := rfl
@[simp] theorem State.setDraws_readByte (v : Nat) (a : Nat) : (s.setDraws v).readByte a = s.readByte a := rfl

/-! Fields after `setRequests`. -/

@[simp] theorem State.setRequests_V (v : List Operation) : (s.setRequests v).V = s.V := rfl
@[simp] theorem State.setRequests_index (v : List Operation) : (s.setRequests v).index = s.index := rfl
@[simp] theorem State.setRequests_pc (v : List Operation) : (s.setRequests v).pc = s.pc := rfl
@[simp] theorem State.setRequests_stack (v : List Operation) : (s.setRequests v).stack = s.stack := rfl
@[simp] theorem State.setRequests_delayTimer (v : List Operation) : (s.setRequests v).delayTimer = s.delayTimer := rfl
@[simp] theorem State.setRequests_soundTimer (v : List Operation) : (s.setRequests v).soundTimer = s.soundTimer := rfl
@[simp] theorem State.setRequests_memory (v : List Operation) : (s.setRequests v).memory = s.memory := rfl
@[simp] theorem State.setRequests_framebuffer (v : List Operation) : (s.setRequests v).framebuffer = s.framebuffer := rfl
@[simp] theorem State.setRequests_keys (v : List Operation) : (s.setRequests v).keys = s.keys := rfl
@[simp] theorem State.setRequests_xs (v : List Operation) : (s.setRequests v).xs = s.xs := rfl
@[simp] theorem State.setRequests_cfg (v : List Operation) : (s.setRequests v).cfg = s.cfg := rfl
@[simp] theorem State.setRequests_draws (v : List Operation) : (s.setRequests v).draws = s.draws := rfl
@[simp] theorem State.setRequests_requests (v : List Operation) : (s.setRequests v).requests = v := rfl
@[simp] theorem State.setRequests_arrivals (v : List Operation) : (s.setRequests v).arrivals = s.arrivals := rfl
@[simp] theorem State.setRequests_result (v : List Operation) : (s.setRequests v).result = s.result := rfl
@[simp] theorem State.setRequests_getV (v : List Operation) (q : Reg) : (s.setRequests v).getV q = s.getV q := rfl
@[simp] theorem State.setRequests_getKey (v : List Operation) (q : Nibble) : (s.setRequests v).getKey q = s.getKey q := rfl
@[simp] theorem State.setRequests_readByte (v : List Operation) (a : Nat) : (s.setRequests v).readByte a = s.readByte a := rfl

/-! Fields after `setArrivals`. -/

@[simp] theorem State.setArrivals_V (v : Nat) : (s.setArrivals v).V = s.V := rfl
@[simp] theorem State.setArrivals_index (v : Nat) : (s.setArrivals v).index = s.index := rfl
@[simp] theorem State.setArrivals_pc (v : Nat) : (s.setArrivals v).pc = s.pc := rfl
@[simp] theorem State.setArrivals_stack (v : Nat) : (s.setArrivals v).stack = s.stack := rfl
@[simp] theorem State.setArrivals_delayTimer (v : Nat) : (s.setArrivals v).delayTimer = s.delayTimer := rfl
@[simp] theorem State.setArrivals_soundTimer (v : Nat) : (s.setArrivals v).soundTimer = s.soundTimer := rfl
@[simp] theorem State.setArrivals_memory (v : Nat) : (s.setArrivals v).memory = s.memory := rfl
@[simp] theorem State.setArrivals_framebuffer (v : Nat) : (s.setArrivals v).framebuffer = s.framebuffer := rfl
@[simp] theorem State.setArrivals_keys (v : Nat) : (s.setArrivals v).keys = s.keys := rfl
@[simp] theorem State.setArrivals_xs (v : Nat) : (s.setArrivals v).xs = s.xs := rfl
@[simp] theorem State.setArrivals_cfg (v : Nat) : (s.setArrivals v).cfg = s.cfg := rfl
@[simp] theorem State.setArrivals_draws (v : Nat) : (s.setArrivals v).draws = s.draws := rfl
@[simp] theorem State.setArrivals_requests (v : Nat) : (s.setArrivals v).requests = s.requests := rfl
@[simp] theorem State.setArrivals_arrivals (v : Nat) : (s.setArrivals v).arrivals = v := rfl
@[simp] theorem State.setArrivals_result (v : Nat) : (s.setArrivals v).result = s.result := rfl
@[simp] theorem State.setArrivals_getV (v : Nat) (q : Reg) : (s.setArrivals v).getV q = s.getV q := rfl
@[simp] theorem State.setArrivals_getKey (v : Nat) (q : Nibble) : (s.setArrivals v).getKey q = s.getKey q := rfl
@[simp] theorem State.setArrivals_readByte (v : Nat) (a : Nat) : (s.setArrivals v).readByte a = s.readByte a := rfl

/-! Fields after `setResult`. -/

@[simp] theorem State.setResult_V (v : OpResult) : (s.setResult v).V = s.V := rfl
@[simp] theorem State.setResult_index (v : OpResult) : (s.setResult v).index = s.index := rfl
@[simp] theorem State.setResult_pc (v : OpResult) : (s.setResult v).pc = s.pc := rfl
@[simp] theorem State.setResult_stack (v : OpResult) : (s.setResult v).stack = s.stack := rfl
@[simp] theorem State.setResult_delayTimer (v : OpResult) : (s.setResult v).delayTimer = s.delayTimer := rfl
@[simp] theorem State.setResult_soundTimer (v : OpResult) : (s.setResult v).soundTimer = s.soundTimer := rfl
@[simp] theorem State.setResult_memory (v : OpResult) : (s.setResult v).memory = s.memory := rfl
@[simp] theorem State.setResult_framebuffer (v : OpResult) : (s.setResult v).framebuffer = s.framebuffer := rfl
@[simp] theorem State.setResult_keys (v : OpResult) : (s.setResult v).keys = s.keys := rfl
@[simp] theorem State.setResult_xs (v : OpResult) : (s.setResult v).xs = s.xs := rfl
@[simp] theorem State.setResult_cfg (v : OpResult) : (s.setResult v).cfg = s.cfg := rfl
@[simp] theorem State.setResult_draws (v : OpResult) : (s.setResult v).draws = s.draws := rfl
@[simp] theorem State.setResult_requests (v : OpResult) : (s.setResult v).requests = s.requests := rfl
@[simp] theorem State.setResult_arrivals (v : OpResult) : (s.setResult v).arrivals = s.arrivals := rfl
@[simp] theorem State.setResult_result (v : OpResult) : (s.setResult v).result = v := rfl
@[simp] theorem State.setResult_getV (v : OpResult) (q : Reg) : (s.setResult v).getV q = s.getV q := rfl
@[simp] theorem State.setResult_getKey (v : OpResult) (q : Nibble) : (s.setResult v).getKey q = s.getKey q := rfl
@[simp] theorem State.setResult_readByte (v : OpResult) (a : Nat) : (s.setResult v).readByte a = s.readByte a := rfl

/-! Derived updates. -/

@[simp] theorem State.advancePc_eq : s.advancePc = s.setPc (s.pc + 2#16) := rfl
@[simp] theorem State.setFlag_eq (b : Bool) : s.setFlag b = s.setV vf (flagByte b) := rfl
@[simp] theorem State.setVFlag_eq (x : Reg) (v : Byte) (b : Bool) : s.setVFlag x v b = (s.setV x v).setV vf (flagByte b) := rfl

/-! The register file and the key vector: a read after a write. -/

@[simp] theorem State.setV_getV (r : Reg) (v : Byte) (q : Reg) : (s.setV r v).getV q = if q = r then v else s.getV q := by
  simp only [State.getV, State.setV, Vector.getElem_set, BitVec.toNat_inj]
  by_cases h : q = r <;> simp [h, eq_comm (a := r)]

@[simp] theorem State.setAllV_getV (v : Vector Byte 16) (q : Reg) : (s.setAllV v).getV q = v[q.toNat]'(q.isLt) := rfl

@[simp] theorem State.setKey_getKey (k : Nibble) (b : Bool) (q : Nibble) : (s.setKey k b).getKey q = if q = k then b else s.getKey q := by
  simp only [State.getKey, State.setKey, Vector.getElem_set, BitVec.toNat_inj]
  by_cases h : q = k <;> simp [h, eq_comm (a := k)]

/-- Two states are equal when all their fields are; registers, keys and so on can be compared through their reads. -/
theorem State.V_eq_of_getV {s t : State} (h : ∀ r, t.getV r = s.getV r) : t.V = s.V := by
  refine Vector.ext fun i hi => ?_
  simpa [State.getV, Nat.mod_eq_of_lt hi] using h (BitVec.ofNat 4 i)

end Sys2Proof.Machine
end

