-- ==== Sys2Proof/Laws/Framebuffer.lean ====
section
/-! SUPPORT. The laws of the framebuffer: a pixel read after a pixel write, and the cleared screen. -/

namespace Sys2Proof.Machine

/-- A pixel read after a pixel write; a write outside the screen changes nothing. -/
theorem Framebuffer.pixel_setPixel (fb : Framebuffer) (y x : Nat) (b : Bool) (y' x' : Nat) :
    (fb.setPixel y x b).pixel y' x' = if y' = y ∧ x' = x ∧ y < 32 ∧ x < 64 then b else fb.pixel y' x' := by
  unfold Framebuffer.setPixel
  split
  · next h =>
    unfold Framebuffer.pixel
    by_cases h' : y' < 32 ∧ x' < 64
    · simp only [h', and_self, dif_pos, Vector.getElem_set]
      by_cases ey : y = y'
      · subst ey
        by_cases ex : x = x'
        · subst ex; simp [h]
        · simp [ex, Ne.symm ex]
      · simp [ey, Ne.symm ey]
    · simp only [h', dif_neg, not_false_eq_true]
      by_cases e : y' = y ∧ x' = x
      · exact absurd (by rw [e.1, e.2]; exact h) h'
      · rw [if_neg (fun q => e ⟨q.1, q.2.1⟩)]
  · next h =>
    rw [if_neg (fun q => h q.2.2)]

@[simp] theorem Framebuffer.pixel_cleared (y x : Nat) : clearedFramebuffer.pixel y x = false := by
  unfold Framebuffer.pixel clearedFramebuffer
  split <;> simp

theorem Framebuffer.pixel_outside (fb : Framebuffer) {y x : Nat} (h : ¬(y < 32 ∧ x < 64)) : fb.pixel y x = false := by
  simp [Framebuffer.pixel, h]

/-- Two framebuffers with the same pixels are equal. -/
theorem Framebuffer.eq_of_pixel {f g : Framebuffer} (h : ∀ y x, f.pixel y x = g.pixel y x) : f = g := by
  refine Vector.ext fun y hy => Vector.ext fun x hx => ?_
  simpa [Framebuffer.pixel, hy, hx] using h y x

end Sys2Proof.Machine
end

