-- ==== Sys2Proof/Laws/Memory.lean ====
section
/-! SUPPORT. The laws of memory: a read after a write, and that every memory operation keeps the canonical form. -/

namespace Sys2Proof.Machine

theorem Memory.read_insert {m : Memory} {a : Nat} (h : ∀ c ∈ m, c.1 ≠ a) (v : Byte) (b : Nat) :
    (Memory.insert m a v).read b = if b = a then v else m.read b := by
  induction m with
  | nil => by_cases e : b = a <;> simp [Memory.insert, Memory.read, e, eq_comm (a := a)]
  | cons c rest ih =>
    obtain ⟨k, u⟩ := c
    have hk : k ≠ a := h (k, u) (by simp)
    have ih := ih (fun c hc => h c (by simp [hc]))
    by_cases lt : a < k
    · by_cases e : b = a <;> simp [Memory.insert, Memory.read, lt, e, eq_comm (a := a)]
    · simp only [Memory.insert, lt, if_false, Memory.read, ih]
      by_cases e : b = a
      · subst e; simp [hk]
      · simp [e]

theorem Memory.read_erase (m : Memory) (a b : Nat) : (m.erase a).read b = if b = a then resetByte a else m.read b := by
  induction m with
  | nil => by_cases e : b = a <;> simp [Memory.erase, Memory.read, e]
  | cons c rest ih =>
    obtain ⟨k, u⟩ := c
    simp only [Memory.erase] at ih
    by_cases hk : k = a
    · subst hk
      by_cases e : b = k
      · simpa [Memory.erase, Memory.read, e] using ih
      · simpa [Memory.erase, Memory.read, e, Ne.symm e, eq_comm] using ih
    · by_cases e : b = a
      · subst e; simpa [Memory.erase, Memory.read, hk] using ih
      · simp [Memory.erase, Memory.read, hk, e, ih]

theorem Memory.mem_erase_ne {m : Memory} {a : Nat} : ∀ c ∈ m.erase a, c.1 ≠ a := by
  intro c hc; simpa using (List.mem_filter.mp hc).2

/-- A read after a write of one byte, in every memory. -/
theorem Memory.read_write (m : Memory) (a : Nat) (v : Byte) (b : Nat) :
    (m.write a v).read b = if b = a then v else m.read b := by
  unfold Memory.write
  split
  · next h => rw [Memory.read_erase, h]
  · rw [Memory.read_insert Memory.mem_erase_ne, Memory.read_erase]
    by_cases e : b = a <;> simp [e]

/-- A read after bytes were written to ascending addresses, in every memory. -/
theorem Memory.read_writeBytes (m : Memory) (a : Nat) (vs : List Byte) (b : Nat) :
    (m.writeBytes a vs).read b = if a ≤ b ∧ b < a + vs.length then vs.getD (b - a) 0#8 else m.read b := by
  induction vs generalizing m a with
  | nil => rw [if_neg (by simp)]; rfl
  | cons v vs ih =>
    simp only [Memory.writeBytes, ih, Memory.read_write, List.length_cons]
    by_cases e : b = a
    · subst e; simp
    · by_cases h : a + 1 ≤ b ∧ b < a + 1 + vs.length
      · have : b - a = (b - (a + 1)) + 1 := by omega
        rw [if_pos h, if_pos (by omega), this]; simp
      · rw [if_neg h, if_neg e, if_neg (by omega)]

/-- Outside the bytes written nothing changed. -/
theorem Memory.read_writeBytes_outside (m : Memory) {a : Nat} {vs : List Byte} {b : Nat}
    (h : ¬(a ≤ b ∧ b < a + vs.length)) : (m.writeBytes a vs).read b = m.read b := by
  rw [Memory.read_writeBytes, if_neg h]

theorem Memory.wf_cons (a : Nat) (v : Byte) (m : Memory) :
    Memory.wf ((a, v) :: m) = true ↔ a < memSize ∧ v ≠ resetByte a ∧ (∀ c ∈ m, a < c.1) ∧ m.wf = true := by
  simp [Memory.wf, and_assoc]

theorem Memory.wf_erase {m : Memory} (h : m.wf = true) (a : Nat) : (m.erase a).wf = true := by
  induction m with
  | nil => rfl
  | cons c rest ih =>
    obtain ⟨k, u⟩ := c
    obtain ⟨h1, h2, h3, h4⟩ := (Memory.wf_cons k u rest).mp h
    by_cases e : k = a
    · simpa [Memory.erase, e] using ih h4
    · have : Memory.erase ((k, u) :: rest) a = (k, u) :: Memory.erase rest a := by simp [Memory.erase, e]
      rw [this, Memory.wf_cons]
      exact ⟨h1, h2, fun c hc => h3 c (List.mem_of_mem_filter hc), ih h4⟩

theorem Memory.mem_insert {m : Memory} {a : Nat} {v : Byte} {c : Host.Cell} (h : c ∈ Memory.insert m a v) : c = (a, v) ∨ c ∈ m := by
  induction m with
  | nil => simpa [Memory.insert] using h
  | cons d rest ih =>
    obtain ⟨k, u⟩ := d
    unfold Memory.insert at h
    split at h
    · simpa using h
    · rcases List.mem_cons.mp h with h | h
      · exact .inr (by simp [h])
      · exact (ih h).imp id (fun h => by simp [h])

theorem Memory.wf_insert {m : Memory} (h : m.wf = true) {a : Nat} {v : Byte} (ha : a < memSize) (hv : v ≠ resetByte a)
    (hm : ∀ c ∈ m, c.1 ≠ a) : (Memory.insert m a v).wf = true := by
  induction m with
  | nil => rw [Memory.insert, Memory.wf_cons]; exact ⟨ha, hv, by simp, rfl⟩
  | cons d rest ih =>
    obtain ⟨k, u⟩ := d
    obtain ⟨h1, h2, h3, h4⟩ := (Memory.wf_cons k u rest).mp h
    have hk : k ≠ a := hm (k, u) (by simp)
    unfold Memory.insert
    split
    · next lt =>
      rw [Memory.wf_cons]
      refine ⟨ha, hv, fun c hc => ?_, h⟩
      rcases List.mem_cons.mp hc with hc | hc
      · rw [hc]; exact lt
      · exact lt.trans (h3 c hc)
    · next lt =>
      rw [Memory.wf_cons]
      refine ⟨h1, h2, fun c hc => ?_, ih h4 (fun c hc => hm c (by simp [hc]))⟩
      rcases Memory.mem_insert hc with hc | hc
      · rw [hc]; simp only; omega
      · exact h3 c hc

theorem Memory.wf_write {m : Memory} (h : m.wf = true) {a : Nat} (ha : a < memSize) (v : Byte) : (m.write a v).wf = true := by
  unfold Memory.write
  split
  · exact Memory.wf_erase h a
  · next hv => exact Memory.wf_insert (Memory.wf_erase h a) ha hv Memory.mem_erase_ne

/-- Writing bytes inside memory keeps the canonical form. -/
theorem Memory.wf_writeBytes {m : Memory} (h : m.wf = true) {a : Nat} {vs : List Byte} (ha : a + vs.length ≤ memSize) :
    (m.writeBytes a vs).wf = true := by
  induction vs generalizing m a with
  | nil => exact h
  | cons v vs ih =>
    simp only [List.length_cons] at ha
    exact ih (Memory.wf_write h (by omega) v) (by omega)

theorem Memory.wf_reset : State.reset.memory.wf = true := rfl

end Sys2Proof.Machine
end

