-- ==== Sys2Proof/Laws/Ops.lean ====
section
/-! SUPPORT. One lemma per shared operation that says everything it can do. -/

namespace Sys2Proof.Machine

theorem accessOk_iff (a n : Nat) : accessOk a n = true ↔ n = 0 ∨ a + n ≤ 0x1000 := by
  rw [accessOk, Bool.or_eq_true, beq_iff_eq, decide_eq_true_iff]; rfl

/-- The range check either goes on or stops with the state unchanged. -/
theorem guardAccess_ok {a n : Nat} (h : n = 0 ∨ a + n ≤ 0x1000) (s : State) (k : Answer) : guardAccess a n s k = k := by
  rw [guardAccess, if_pos ((accessOk_iff a n).mpr h)]

theorem guardAccess_out {a n : Nat} (h : ¬(n = 0 ∨ a + n ≤ 0x1000)) (s : State) (k : Answer) :
    guardAccess a n s k = .fault (.memoryOutOfRange (max a 0x1000) s) := by
  rw [guardAccess, if_neg (mt (accessOk_iff a n).mp h)]; rfl

/-- What a guarded access that answers a next state did: it was in range and went on. -/
theorem guardAccess_next {a n : Nat} {s t : State} {k : Answer} (h : guardAccess a n s k = .next t) :
    (n = 0 ∨ a + n ≤ 0x1000) ∧ k = .next t := by
  by_cases ok : n = 0 ∨ a + n ≤ 0x1000
  · exact ⟨ok, by rwa [guardAccess_ok ok] at h⟩
  · rw [guardAccess_out ok] at h; cases h

@[simp] theorem raise_eq (e : Error) (s : State) : raise e s = .next (s.setResult (.error e)) := rfl

@[simp] theorem skipIf_eq (c : Bool) (s : State) : skipIf c s = .next (s.setPc (if c then s.pc + 2#16 else s.pc)) := rfl

@[simp] theorem writeVx_eq (x : Reg) (v : Byte) (s : State) : writeVx x v s = .next (s.setV x v) := rfl

@[simp] theorem writeVxFlag_eq (x : Reg) (v : Byte) (b : Bool) (s : State) :
    writeVxFlag x v b s = .next ((s.setV x v).setV vf (flagByte b)) := rfl

/-- Storing at I, in range. -/
theorem storeAtIndex_ok {bytes : List Byte} {s : State} (after : State → State) (h : s.index.toNat + bytes.length ≤ 0x1000) :
    storeAtIndex bytes s after = .next (after (s.setMemory (s.memory.writeBytes s.index.toNat bytes))) :=
  guardAccess_ok (.inr h) s _

/-- Storing at I, out of range. -/
theorem storeAtIndex_out {bytes : List Byte} {s : State} (after : State → State) (h0 : bytes ≠ [])
    (h : ¬ s.index.toNat + bytes.length ≤ 0x1000) :
    storeAtIndex bytes s after = .fault (.memoryOutOfRange (max s.index.toNat 0x1000) s) :=
  guardAccess_out (fun q => q.elim (fun q => h0 (List.length_eq_zero_iff.mp q)) h) s _

@[simp] theorem bcdDigits_length (v : Byte) : (bcdDigits v).length = 3 := rfl

@[simp] theorem blockBytes_length (x : Reg) (s : State) : (blockBytes x s).length = x.toNat + 1 := by
  simp [blockBytes, blockLength]

/-- The registers FX65 leaves. -/
theorem blockLoaded_get (x : Reg) (s : State) (r : Reg) :
    (blockLoaded x s)[r.toNat]'(r.isLt) = if r.toNat ≤ x.toNat then s.readByte (s.index.toNat + r.toNat) else s.getV r := by
  simp [blockLoaded, blockLength, dataBase, State.getV]

/-- The fetch succeeds exactly when both bytes are in memory. -/
theorem fetch_eq (s : State) :
    s.fetch = if s.pc.toNat ≤ 0xFFE then some (s.readWord s.pc.toNat) else none := by
  by_cases h : s.pc.toNat ≤ 0xFFE
  · rw [if_pos h, State.fetch, if_pos ((accessOk_iff _ _).mpr (.inr (by omega)))]
  · rw [if_neg h, State.fetch, if_neg (mt (accessOk_iff _ _).mp (by omega))]

@[simp] theorem flagByte_toNat (b : Bool) : (flagByte b).toNat = if b then 1 else 0 := by cases b <;> rfl

/-- A frame holds of the state itself. -/
theorem Frame.refl (f : Footprint) (s : State) : Frame f s s := by
  constructor <;> simp

end Sys2Proof.Machine
end

