-- ==== Sys2Proof/Laws/Display.lean ====
section
/-! SUPPORT. What the loops of a draw do to one pixel and to the collision (spec 44 R201). -/

namespace Sys2Proof.Machine

/-- One sprite bit toggles its own pixel and no other. -/
theorem plotBit_pixel (bit : Bool) {y x : Nat} (hy : y < 32) (hx : x < 64) (p : Canvas) (r c : Nat) :
    (plotBit bit y x p).fb.pixel r c = Bool.xor (p.fb.pixel r c) (bit && decide (r = y ∧ c = x)) := by
  cases bit
  · simp [plotBit]
  · simp only [plotBit, if_true, Framebuffer.pixel_setPixel, hy, hx, and_true]
    by_cases h : r = y ∧ c = x
    · obtain ⟨rfl, rfl⟩ := h; simp
    · simp [h]

theorem plotBit_collision (bit : Bool) (y x : Nat) (p : Canvas) :
    (plotBit bit y x p).collision = (p.collision || (bit && p.fb.pixel y x)) := by
  cases bit <;> simp [plotBit]

/-- One row drawn from column `k` of the sprite on: the pixels of the row from there on are toggled by their sprite bits. -/
theorem drawColumns_pixel (b : Byte) {y : Nat} (hy : y < 32) (x0 : Nat) (m k : Nat) (p : Canvas) (r c : Nat) :
    (drawColumns b y x0 (List.range' k m) p).fb.pixel r c =
      Bool.xor (p.fb.pixel r c) (decide (r = y ∧ c < 64 ∧ x0 + k ≤ c ∧ c < x0 + k + m) && b.getLsbD (7 - (c - x0))) := by
  induction m generalizing k p with
  | zero => simp only [List.range'_zero, drawColumns]; rw [decide_eq_false (by omega)]; simp
  | succ m ih =>
    rw [List.range'_succ, drawColumns]
    split
    · next h => rw [decide_eq_false (by omega)]; simp
    · next h =>
      rw [ih, plotBit_pixel _ hy (by omega)]
      by_cases e : r = y ∧ c = x0 + k
      · obtain ⟨rfl, rfl⟩ := e
        have h1 : x0 + k - x0 = k := by omega
        rw [decide_eq_false (p := r = r ∧ x0 + k < 64 ∧ x0 + (k + 1) ≤ x0 + k ∧ x0 + k < x0 + (k + 1) + m) (by omega),
          decide_eq_true (p := r = r ∧ x0 + k < 64 ∧ x0 + k ≤ x0 + k ∧ x0 + k < x0 + k + (m + 1)) (by omega), h1]
        simp
      · rw [decide_eq_false e]
        have : (r = y ∧ c < 64 ∧ x0 + (k + 1) ≤ c ∧ c < x0 + (k + 1) + m) ↔ (r = y ∧ c < 64 ∧ x0 + k ≤ c ∧ c < x0 + k + (m + 1)) := by omega
        simp only [this, Bool.and_false, Bool.xor_false]

/-- One row's collision: some pixel of the row is set under a sprite bit. -/
theorem drawColumns_collision (b : Byte) {y : Nat} (hy : y < 32) (x0 : Nat) (m k : Nat) (p : Canvas) :
    (drawColumns b y x0 (List.range' k m) p).collision = true ↔
      p.collision = true ∨ ∃ c, c < 64 ∧ x0 + k ≤ c ∧ c < x0 + k + m ∧ b.getLsbD (7 - (c - x0)) = true ∧ p.fb.pixel y c = true := by
  induction m generalizing k p with
  | zero =>
    simp only [List.range'_zero, drawColumns]
    exact ⟨.inl, fun h => h.elim id (fun ⟨c, _, h1, h2, _⟩ => absurd h1 (by omega))⟩
  | succ m ih =>
    rw [List.range'_succ, drawColumns]
    split
    · next h => exact ⟨.inl, fun q => q.elim id (fun ⟨c, h0, h1, _⟩ => absurd h0 (by omega))⟩
    · next h =>
      rw [ih, plotBit_collision]
      have hk : x0 + k - x0 = k := by omega
      have far : ∀ c, x0 + (k + 1) ≤ c → (plotBit (b.getLsbD (7 - k)) y (x0 + k) p).fb.pixel y c = p.fb.pixel y c := by
        intro c hc
        rw [plotBit_pixel _ hy (by omega), decide_eq_false (by omega)]; simp
      constructor
      · rintro (q | ⟨c, h0, h1, h2, h3, h4⟩)
        · rcases Bool.or_eq_true _ _ ▸ q with q | q
          · exact .inl q
          · obtain ⟨q1, q2⟩ := Bool.and_eq_true _ _ ▸ q
            exact .inr ⟨x0 + k, by omega, by omega, by omega, by rw [hk]; exact q1, q2⟩
        · exact .inr ⟨c, h0, by omega, by omega, h3, by rw [← far c h1]; exact h4⟩
      · rintro (q | ⟨c, h0, h1, h2, h3, h4⟩)
        · exact .inl (by simp [q])
        · by_cases e : c = x0 + k
          · subst e
            rw [hk] at h3
            exact .inl (by simp [h3, h4])
          · exact .inr ⟨c, h0, by omega, by omega, h3, by rw [far c (by omega)]; exact h4⟩

/-- Rows drawn from row `k` of the sprite on. -/
theorem drawRows_pixel (mem : Memory) (a : Nat) {y0 : Nat} (x0 : Nat) (m k : Nat) (hy : y0 + k + m ≤ 32) (p : Canvas) (r c : Nat) :
    (drawRows mem a y0 x0 (List.range' k m) p).fb.pixel r c =
      Bool.xor (p.fb.pixel r c) (decide (y0 + k ≤ r ∧ r < y0 + k + m ∧ c < 64 ∧ x0 ≤ c ∧ c < x0 + 8)
        && (mem.read (a + (r - y0))).getLsbD (7 - (c - x0))) := by
  induction m generalizing k p with
  | zero => simp only [List.range'_zero, drawRows]; rw [decide_eq_false (by omega)]; simp
  | succ m ih =>
    rw [List.range'_succ, drawRows, ih (k + 1) (by omega), List.range_eq_range', drawColumns_pixel _ (by omega)]
    have whole : ∀ q, (decide (y0 + k ≤ r ∧ r < y0 + k + (m + 1) ∧ c < 64 ∧ x0 ≤ c ∧ c < x0 + 8) && q)
        = Bool.xor (decide (r = y0 + k ∧ c < 64 ∧ x0 + 0 ≤ c ∧ c < x0 + 0 + 8) && q)
            (decide (y0 + (k + 1) ≤ r ∧ r < y0 + (k + 1) + m ∧ c < 64 ∧ x0 ≤ c ∧ c < x0 + 8) && q) := by
      intro q
      by_cases h1 : r = y0 + k ∧ c < 64 ∧ x0 + 0 ≤ c ∧ c < x0 + 0 + 8
      · rw [decide_eq_true h1, decide_eq_false (p := y0 + (k + 1) ≤ r ∧ _) (by omega), decide_eq_true (by omega)]; simp
      · rw [decide_eq_false h1]
        simp only [Bool.false_and, Bool.false_xor]
        congr 1
        exact decide_eq_decide.mpr (by omega)
    rw [whole]
    by_cases e : r = y0 + k
    · subst e; rw [Nat.add_sub_cancel_left, Bool.xor_assoc]
    · rw [decide_eq_false (p := r = y0 + k ∧ _) (by omega)]; simp only [Bool.false_and, Bool.xor_false, Bool.false_xor]

/-- A row of a draw does not touch the rows below it. -/
theorem drawColumns_below (b : Byte) {y : Nat} (hy : y < 32) (x0 : Nat) (p : Canvas) {r : Nat} (hr : r ≠ y) (c : Nat) :
    (drawColumns b y x0 (List.range 8) p).fb.pixel r c = p.fb.pixel r c := by
  rw [List.range_eq_range', drawColumns_pixel b hy, decide_eq_false (by omega)]; simp

/-- The collision of rows drawn from row `k` of the sprite on. -/
theorem drawRows_collision (mem : Memory) (a : Nat) {y0 : Nat} (x0 : Nat) (m k : Nat) (hy : y0 + k + m ≤ 32) (p : Canvas) :
    (drawRows mem a y0 x0 (List.range' k m) p).collision = true ↔
      p.collision = true ∨ ∃ r c, y0 + k ≤ r ∧ r < y0 + k + m ∧ c < 64 ∧ x0 ≤ c ∧ c < x0 + 8
        ∧ (mem.read (a + (r - y0))).getLsbD (7 - (c - x0)) = true ∧ p.fb.pixel r c = true := by
  induction m generalizing k p with
  | zero =>
    simp only [List.range'_zero, drawRows]
    exact ⟨.inl, fun h => h.elim id (fun ⟨r, c, h1, h2, _⟩ => absurd h1 (by omega))⟩
  | succ m ih =>
    rw [List.range'_succ, drawRows, ih (k + 1) (by omega)]
    have row := drawColumns_collision (mem.read (a + k)) (y := y0 + k) (by omega) x0 8 0 p
    rw [← List.range_eq_range'] at row
    rw [row]
    constructor
    · rintro ((q | ⟨c, h0, h1, h2, h3, h4⟩) | ⟨r, c, h0, h1, h2, h3, h4, h5, h6⟩)
      · exact .inl q
      · exact .inr ⟨y0 + k, c, by omega, by omega, h0, by omega, by omega, by rw [Nat.add_sub_cancel_left]; exact h3, h4⟩
      · exact .inr ⟨r, c, by omega, by omega, h2, h3, h4, h5, by rwa [drawColumns_below _ (by omega) _ _ (by omega)] at h6⟩
    · rintro (q | ⟨r, c, h0, h1, h2, h3, h4, h5, h6⟩)
      · exact .inl (.inl q)
      · by_cases e : r = y0 + k
        · subst e
          rw [Nat.add_sub_cancel_left] at h5
          exact .inl (.inr ⟨c, h2, by omega, by omega, h5, h6⟩)
        · exact .inr ⟨r, c, by omega, by omega, h2, h3, h4, h5, by rwa [drawColumns_below _ (by omega) _ _ e]⟩

end Sys2Proof.Machine
end

