-- ==== Sys2Proof/Laws/PerInstr.lean ====
section
/-! SUPPORT. Statements about every instruction as syntax, one lemma per constructor. -/

/-- The word of an instruction matches its row of the opcode map: `(op AND mask) = match` (30 R84). -/
def Sys2Proof.Laws.EncodedRow.Statement (i : Sys2Proof.Instr) : Prop :=
  Sys2Proof.encode i &&& (Sys2Proof.Instr.row i).mask = (Sys2Proof.Instr.row i).pattern

namespace Sys2Proof.Laws.EncodedRow

theorem displayClear : Statement (Sys2Proof.Instr.displayClear) := by unfold Statement; decide

theorem subroutineReturn : Statement (Sys2Proof.Instr.subroutineReturn) := by unfold Statement; decide

theorem system (nnn : Addr12) : Statement (Sys2Proof.Instr.system nnn) := by
  unfold Statement encode Instr.row
  apply BitVec.eq_of_getLsbD_eq
  intro k hk
  interval_cases k <;> simp only [BitVec.getLsbD_and, BitVec.getLsbD_append] <;> simp

theorem jump (nnn : Addr12) : Statement (Sys2Proof.Instr.jump nnn) := by
  unfold Statement encode Instr.row
  apply BitVec.eq_of_getLsbD_eq
  intro k hk
  interval_cases k <;> simp only [BitVec.getLsbD_and, BitVec.getLsbD_append] <;> simp

theorem subroutineCall (nnn : Addr12) : Statement (Sys2Proof.Instr.subroutineCall nnn) := by
  unfold Statement encode Instr.row
  apply BitVec.eq_of_getLsbD_eq
  intro k hk
  interval_cases k <;> simp only [BitVec.getLsbD_and, BitVec.getLsbD_append] <;> simp

theorem skipIfVxEqualsValue (x : Reg) (nn : Byte) : Statement (Sys2Proof.Instr.skipIfVxEqualsValue x nn) := by
  unfold Statement encode Instr.row
  apply BitVec.eq_of_getLsbD_eq
  intro k hk
  interval_cases k <;> simp only [BitVec.getLsbD_and, BitVec.getLsbD_append] <;> simp

theorem skipIfVxNotEqualsValue (x : Reg) (nn : Byte) : Statement (Sys2Proof.Instr.skipIfVxNotEqualsValue x nn) := by
  unfold Statement encode Instr.row
  apply BitVec.eq_of_getLsbD_eq
  intro k hk
  interval_cases k <;> simp only [BitVec.getLsbD_and, BitVec.getLsbD_append] <;> simp

theorem skipIfVxEqualsVy (x y : Reg) : Statement (Sys2Proof.Instr.skipIfVxEqualsVy x y) := by
  unfold Statement encode Instr.row
  apply BitVec.eq_of_getLsbD_eq
  intro k hk
  interval_cases k <;> simp only [BitVec.getLsbD_and, BitVec.getLsbD_append] <;> simp

theorem setRegisterWithValue (x : Reg) (nn : Byte) : Statement (Sys2Proof.Instr.setRegisterWithValue x nn) := by
  unfold Statement encode Instr.row
  apply BitVec.eq_of_getLsbD_eq
  intro k hk
  interval_cases k <;> simp only [BitVec.getLsbD_and, BitVec.getLsbD_append] <;> simp

theorem addValueToRegister (x : Reg) (nn : Byte) : Statement (Sys2Proof.Instr.addValueToRegister x nn) := by
  unfold Statement encode Instr.row
  apply BitVec.eq_of_getLsbD_eq
  intro k hk
  interval_cases k <;> simp only [BitVec.getLsbD_and, BitVec.getLsbD_append] <;> simp

theorem setVxWithVy (x y : Reg) : Statement (Sys2Proof.Instr.setVxWithVy x y) := by
  unfold Statement encode Instr.row
  apply BitVec.eq_of_getLsbD_eq
  intro k hk
  interval_cases k <;> simp only [BitVec.getLsbD_and, BitVec.getLsbD_append] <;> simp

theorem orVxWithVy (x y : Reg) : Statement (Sys2Proof.Instr.orVxWithVy x y) := by
  unfold Statement encode Instr.row
  apply BitVec.eq_of_getLsbD_eq
  intro k hk
  interval_cases k <;> simp only [BitVec.getLsbD_and, BitVec.getLsbD_append] <;> simp

theorem andVxWithVy (x y : Reg) : Statement (Sys2Proof.Instr.andVxWithVy x y) := by
  unfold Statement encode Instr.row
  apply BitVec.eq_of_getLsbD_eq
  intro k hk
  interval_cases k <;> simp only [BitVec.getLsbD_and, BitVec.getLsbD_append] <;> simp

theorem xorVxWithVy (x y : Reg) : Statement (Sys2Proof.Instr.xorVxWithVy x y) := by
  unfold Statement encode Instr.row
  apply BitVec.eq_of_getLsbD_eq
  intro k hk
  interval_cases k <;> simp only [BitVec.getLsbD_and, BitVec.getLsbD_append] <;> simp

theorem addVxWithVy (x y : Reg) : Statement (Sys2Proof.Instr.addVxWithVy x y) := by
  unfold Statement encode Instr.row
  apply BitVec.eq_of_getLsbD_eq
  intro k hk
  interval_cases k <;> simp only [BitVec.getLsbD_and, BitVec.getLsbD_append] <;> simp

theorem subtractVxWithVy (x y : Reg) : Statement (Sys2Proof.Instr.subtractVxWithVy x y) := by
  unfold Statement encode Instr.row
  apply BitVec.eq_of_getLsbD_eq
  intro k hk
  interval_cases k <;> simp only [BitVec.getLsbD_and, BitVec.getLsbD_append] <;> simp

theorem shift1RightVxWithVy (x y : Reg) : Statement (Sys2Proof.Instr.shift1RightVxWithVy x y) := by
  unfold Statement encode Instr.row
  apply BitVec.eq_of_getLsbD_eq
  intro k hk
  interval_cases k <;> simp only [BitVec.getLsbD_and, BitVec.getLsbD_append] <;> simp

theorem subtractVyWithVx (x y : Reg) : Statement (Sys2Proof.Instr.subtractVyWithVx x y) := by
  unfold Statement encode Instr.row
  apply BitVec.eq_of_getLsbD_eq
  intro k hk
  interval_cases k <;> simp only [BitVec.getLsbD_and, BitVec.getLsbD_append] <;> simp

theorem shift1LeftVxWithVy (x y : Reg) : Statement (Sys2Proof.Instr.shift1LeftVxWithVy x y) := by
  unfold Statement encode Instr.row
  apply BitVec.eq_of_getLsbD_eq
  intro k hk
  interval_cases k <;> simp only [BitVec.getLsbD_and, BitVec.getLsbD_append] <;> simp

theorem skipIfVxNotEqualsVy (x y : Reg) : Statement (Sys2Proof.Instr.skipIfVxNotEqualsVy x y) := by
  unfold Statement encode Instr.row
  apply BitVec.eq_of_getLsbD_eq
  intro k hk
  interval_cases k <;> simp only [BitVec.getLsbD_and, BitVec.getLsbD_append] <;> simp

theorem setIndex (nnn : Addr12) : Statement (Sys2Proof.Instr.setIndex nnn) := by
  unfold Statement encode Instr.row
  apply BitVec.eq_of_getLsbD_eq
  intro k hk
  interval_cases k <;> simp only [BitVec.getLsbD_and, BitVec.getLsbD_append] <;> simp

theorem jumpWithOffset (x : Reg) (nnn : Addr12) : Statement (Sys2Proof.Instr.jumpWithOffset x nnn) := by
  unfold Statement encode Instr.row
  apply BitVec.eq_of_getLsbD_eq
  intro k hk
  interval_cases k <;> simp only [BitVec.getLsbD_and, BitVec.getLsbD_append] <;> simp

theorem random (x : Reg) (nn : Byte) : Statement (Sys2Proof.Instr.random x nn) := by
  unfold Statement encode Instr.row
  apply BitVec.eq_of_getLsbD_eq
  intro k hk
  interval_cases k <;> simp only [BitVec.getLsbD_and, BitVec.getLsbD_append] <;> simp

theorem displayDraw (x y : Reg) (n : Nibble) : Statement (Sys2Proof.Instr.displayDraw x y n) := by
  unfold Statement encode Instr.row
  apply BitVec.eq_of_getLsbD_eq
  intro k hk
  interval_cases k <;> simp only [BitVec.getLsbD_and, BitVec.getLsbD_append] <;> simp

theorem skipIfKeyPressed (x : Reg) : Statement (Sys2Proof.Instr.skipIfKeyPressed x) := by
  unfold Statement encode Instr.row
  apply BitVec.eq_of_getLsbD_eq
  intro k hk
  interval_cases k <;> simp only [BitVec.getLsbD_and, BitVec.getLsbD_append] <;> simp

theorem skipIfKeyNotPressed (x : Reg) : Statement (Sys2Proof.Instr.skipIfKeyNotPressed x) := by
  unfold Statement encode Instr.row
  apply BitVec.eq_of_getLsbD_eq
  intro k hk
  interval_cases k <;> simp only [BitVec.getLsbD_and, BitVec.getLsbD_append] <;> simp

theorem getDelayTimer (x : Reg) : Statement (Sys2Proof.Instr.getDelayTimer x) := by
  unfold Statement encode Instr.row
  apply BitVec.eq_of_getLsbD_eq
  intro k hk
  interval_cases k <;> simp only [BitVec.getLsbD_and, BitVec.getLsbD_append] <;> simp

theorem waitForKey (x : Reg) : Statement (Sys2Proof.Instr.waitForKey x) := by
  unfold Statement encode Instr.row
  apply BitVec.eq_of_getLsbD_eq
  intro k hk
  interval_cases k <;> simp only [BitVec.getLsbD_and, BitVec.getLsbD_append] <;> simp

theorem setDelayTimer (x : Reg) : Statement (Sys2Proof.Instr.setDelayTimer x) := by
  unfold Statement encode Instr.row
  apply BitVec.eq_of_getLsbD_eq
  intro k hk
  interval_cases k <;> simp only [BitVec.getLsbD_and, BitVec.getLsbD_append] <;> simp

theorem setSoundTimer (x : Reg) : Statement (Sys2Proof.Instr.setSoundTimer x) := by
  unfold Statement encode Instr.row
  apply BitVec.eq_of_getLsbD_eq
  intro k hk
  interval_cases k <;> simp only [BitVec.getLsbD_and, BitVec.getLsbD_append] <;> simp

theorem addToIndex (x : Reg) : Statement (Sys2Proof.Instr.addToIndex x) := by
  unfold Statement encode Instr.row
  apply BitVec.eq_of_getLsbD_eq
  intro k hk
  interval_cases k <;> simp only [BitVec.getLsbD_and, BitVec.getLsbD_append] <;> simp

theorem setIndexToCharacter (x : Reg) : Statement (Sys2Proof.Instr.setIndexToCharacter x) := by
  unfold Statement encode Instr.row
  apply BitVec.eq_of_getLsbD_eq
  intro k hk
  interval_cases k <;> simp only [BitVec.getLsbD_and, BitVec.getLsbD_append] <;> simp

theorem storeBcd (x : Reg) : Statement (Sys2Proof.Instr.storeBcd x) := by
  unfold Statement encode Instr.row
  apply BitVec.eq_of_getLsbD_eq
  intro k hk
  interval_cases k <;> simp only [BitVec.getLsbD_and, BitVec.getLsbD_append] <;> simp

theorem storeRegisters (x : Reg) : Statement (Sys2Proof.Instr.storeRegisters x) := by
  unfold Statement encode Instr.row
  apply BitVec.eq_of_getLsbD_eq
  intro k hk
  interval_cases k <;> simp only [BitVec.getLsbD_and, BitVec.getLsbD_append] <;> simp

theorem loadRegisters (x : Reg) : Statement (Sys2Proof.Instr.loadRegisters x) := by
  unfold Statement encode Instr.row
  apply BitVec.eq_of_getLsbD_eq
  intro k hk
  interval_cases k <;> simp only [BitVec.getLsbD_and, BitVec.getLsbD_append] <;> simp

end Sys2Proof.Laws.EncodedRow
end

