-- ==== Sys2Proof/Laws/Step.lean ====
section
/-! SUPPORT. What a step can do: one lemma per way it goes, and one inversion lemma for the sequencer, for an interface operation and for the step. -/

namespace Sys2Proof.Machine

variable {s t : State}

theorem step_of_request {op : Operation} {rest : List Operation} (h : s.requests = op :: rest) :
    step s = perform op (beginOperation s) := by rw [step, nextOperation, h]

/-- Where no request is listed the step is whichever operation the free value gives: any agent may act next. -/
theorem step_of_empty (h : s.requests = []) : step s = perform (Config.arrival s.arrivals) (beginOperation s) := by
  rw [step, nextOperation, h]

theorem step_of_next {op : Operation} (h : nextOperation s = op) : step s = perform op (beginOperation s) := by rw [step, h]

theorem stepInstruction_waiting {r : Reg} (h : s.xs = .waitingForKey r) : stepInstruction s = .next s := by
  rw [stepInstruction, h]

theorem stepInstruction_fault (h : s.xs = .ready) (hp : 0xFFE < s.pc.toNat) :
    stepInstruction s = .fault (.memoryOutOfRange (max s.pc.toNat 0x1000) s) := by
  simp only [stepInstruction, h, fetch_eq, if_neg (Nat.not_le.mpr hp)]; rfl

theorem stepInstruction_unknown (h : s.xs = .ready) (hp : s.pc.toNat ≤ 0xFFE) {op : Word}
    (hd : decode (s.readWord s.pc.toNat) = .error (.unknownOpcode op)) :
    stepInstruction s = .next ((s.setPc (s.pc + 2#16)).setResult (.error (.unknownOpcode op))) := by
  simp only [stepInstruction, h, fetch_eq, if_pos hp, decodeAndExecute, hd, raise_eq, State.advancePc_eq]

theorem stepInstruction_run (h : s.xs = .ready) (hp : s.pc.toNat ≤ 0xFFE) {i : Instr}
    (hd : decode (s.readWord s.pc.toNat) = .ok i) : stepInstruction s = exec i (s.setPc (s.pc + 2#16)) := by
  simp only [stepInstruction, h, fetch_eq, if_pos hp, decodeAndExecute, hd, State.advancePc_eq]

/-- Everything `step_instruction()` can do when it answers a next state. -/
theorem stepInstruction_next (h : stepInstruction s = .next t) :
    (∃ r, s.xs = .waitingForKey r ∧ t = s)
    ∨ (s.xs = .ready ∧ s.pc.toNat ≤ 0xFFE
        ∧ ((∃ op, t = (s.setPc (s.pc + 2#16)).setResult (.error (.unknownOpcode op)))
          ∨ ∃ i, exec i (s.setPc (s.pc + 2#16)) = .next t)) := by
  cases hx : s.xs with
  | waitingForKey r => rw [stepInstruction_waiting hx] at h; cases h; exact .inl ⟨r, rfl, rfl⟩
  | ready =>
    by_cases hp : s.pc.toNat ≤ 0xFFE
    · refine .inr ⟨rfl, hp, ?_⟩
      cases hd : decode (s.readWord s.pc.toNat) with
      | error e => obtain ⟨op⟩ := e; rw [stepInstruction_unknown hx hp hd] at h; cases h; exact .inl ⟨op, rfl⟩
      | ok i => exact .inr ⟨i, by rwa [stepInstruction_run hx hp hd] at h⟩
    · rw [stepInstruction_fault hx (Nat.not_le.mp hp)] at h; cases h

/-- Everything an interface operation can do when it answers a next state. -/
theorem perform_next {op : Operation} (h : perform op s = .next t) :
    (op = .stepInstruction ∧ stepInstruction s = .next t)
    ∨ (op = .tickTimer ∧ t = (s.setDelay (countdown s.delayTimer)).setSound (countdown s.soundTimer))
    ∨ (∃ k, op = .pressKey k ∧ keyValid k = true ∧ t = s.setKey (keyOf k) true)
    ∨ (∃ k, op = .releaseKey k ∧ keyValid k = true ∧ t = resolveWait k (s.setKey (keyOf k) false))
    ∨ (∃ rom : List Byte, op = .load rom ∧ rom.length ≤ maxRom ∧ t = (resetState s).setMemory ((resetState s).memory.writeBytes programBase rom))
    ∨ (op = .reset ∧ t = resetState s)
    ∨ (∃ r, t = s.setResult r) := by
  cases op with
  | stepInstruction => exact .inl ⟨rfl, h⟩
  | tickTimer => cases h; exact .inr (.inl ⟨rfl, rfl⟩)
  | pressKey k =>
    by_cases hk : keyValid k = true
    · simp only [perform, pressKey, hk, if_true] at h; cases h; exact .inr (.inr (.inl ⟨k, rfl, hk, rfl⟩))
    · simp only [perform, pressKey, hk, raise_eq] at h; cases h
      exact .inr (.inr (.inr (.inr (.inr (.inr ⟨_, rfl⟩)))))
  | releaseKey k =>
    by_cases hk : keyValid k = true
    · simp only [perform, releaseKey, hk, if_true] at h; cases h; exact .inr (.inr (.inr (.inl ⟨k, rfl, hk, rfl⟩)))
    · simp only [perform, releaseKey, hk, raise_eq] at h; cases h
      exact .inr (.inr (.inr (.inr (.inr (.inr ⟨_, rfl⟩)))))
  | load rom =>
    by_cases hl : rom.length > maxRom
    · simp only [perform, loadRom, hl, if_true, raise_eq] at h; cases h
      exact .inr (.inr (.inr (.inr (.inr (.inr ⟨_, rfl⟩)))))
    · simp only [perform, loadRom, hl, if_false] at h; cases h
      exact .inr (.inr (.inr (.inr (.inl ⟨rom, rfl, Nat.not_lt.mp hl, rfl⟩))))
  | reset => cases h; exact .inr (.inr (.inr (.inr (.inr (.inl ⟨rfl, rfl⟩)))))
  | readFramebuffer => cases h; exact .inr (.inr (.inr (.inr (.inr (.inr ⟨_, rfl⟩)))))

/-! Runs of the host's machine, with the states at the model's own type. -/

/-- What a run of one more step does, by the outcome of its first step. -/
theorem run_succ_eq (n : Nat) (s : State) : core.run (n + 1) s =
    match step s with
    | .next t => core.run n t
    | .fault r => .fault r
    | .refused r => .refused r := by
  have e : core.step s = step s := rfl
  cases h : step s <;> simp only [Host.Core.run, e.trans h]

theorem run_succ {n : Nat} (h : step s = .next t) : core.run (n + 1) s = core.run n t := by rw [run_succ_eq, h]

theorem run_add {n : Nat} (m : Nat) (h : core.run n s = .next t) : core.run (n + m) s = core.run m t := by
  induction n generalizing s with
  | zero => cases h; rw [Nat.zero_add]
  | succ n ih =>
    rw [Nat.succ_add]
    rw [run_succ_eq] at h ⊢
    cases hs : step s with
    | next u => rw [hs] at h; exact ih h
    | fault r => rw [hs] at h; cases h
    | refused r => rw [hs] at h; cases h

/-! Which operation comes next, and what beginning it changes. -/

@[simp] theorem nextOperation_setRequests_cons (op : Operation) (rest : List Operation) :
    nextOperation (s.setRequests (op :: rest)) = op := rfl
theorem nextOperation_of_request {op : Operation} {rest : List Operation} (h : s.requests = op :: rest) : nextOperation s = op := by
  rw [nextOperation, h]
theorem nextArrivals_of_request {op : Operation} {rest : List Operation} (h : s.requests = op :: rest) : nextArrivals s = s.arrivals := by
  rw [nextArrivals, h]
theorem nextArrivals_of_empty (h : s.requests = []) : nextArrivals s = s.arrivals + 1 := by rw [nextArrivals, h]

@[simp] theorem beginOperation_result : (beginOperation s).result = .ok := rfl
@[simp] theorem beginOperation_requests : (beginOperation s).requests = s.requests.tail := rfl
@[simp] theorem beginOperation_arrivals : (beginOperation s).arrivals = nextArrivals s := rfl
@[simp] theorem beginOperation_V : (beginOperation s).V = s.V := rfl
@[simp] theorem beginOperation_getV (r : Reg) : (beginOperation s).getV r = s.getV r := rfl
@[simp] theorem beginOperation_index : (beginOperation s).index = s.index := rfl
@[simp] theorem beginOperation_pc : (beginOperation s).pc = s.pc := rfl
@[simp] theorem beginOperation_stack : (beginOperation s).stack = s.stack := rfl
@[simp] theorem beginOperation_delayTimer : (beginOperation s).delayTimer = s.delayTimer := rfl
@[simp] theorem beginOperation_soundTimer : (beginOperation s).soundTimer = s.soundTimer := rfl
@[simp] theorem beginOperation_memory : (beginOperation s).memory = s.memory := rfl
@[simp] theorem beginOperation_readByte (a : Nat) : (beginOperation s).readByte a = s.readByte a := rfl
@[simp] theorem beginOperation_readWord (a : Nat) : (beginOperation s).readWord a = s.readWord a := rfl
@[simp] theorem beginOperation_framebuffer : (beginOperation s).framebuffer = s.framebuffer := rfl
@[simp] theorem beginOperation_keys : (beginOperation s).keys = s.keys := rfl
@[simp] theorem beginOperation_getKey (k : Nibble) : (beginOperation s).getKey k = s.getKey k := rfl
@[simp] theorem beginOperation_xs : (beginOperation s).xs = s.xs := rfl
@[simp] theorem beginOperation_cfg : (beginOperation s).cfg = s.cfg := rfl
@[simp] theorem beginOperation_draws : (beginOperation s).draws = s.draws := rfl

/-- A timer after one tick. -/
theorem countdown_toNat (v : Byte) : (countdown v).toNat = v.toNat - 1 := by
  unfold countdown
  have := v.isLt
  split
  · simp [BitVec.toNat_sub]; omega
  · omega

/-- The key a valid key number names. -/
theorem keyOf_toNat {k : Byte} (h : k.toNat ≤ 15) : (keyOf k).toNat = k.toNat := by simp [keyOf]; omega

theorem keyValid_iff (k : Byte) : keyValid k = true ↔ k.toNat ≤ 15 := by simp [keyValid]

/-- The placed word is the word the next fetch reads. -/
theorem withFetchWord_fetch (s : State) (nbits w : Nat) : (s.withFetchWord nbits w).fetch = some (tableWord nbits w) := by
  have hp : (fetchPlace s).toNat ≤ 0xFFE := by
    unfold fetchPlace
    split
    · next h => have := (accessOk_iff _ _).mp h; omega
    · simp [programBase]
  have e : ∀ a, (s.withFetchWord nbits w).readByte a =
      (s.memory.writeBytes (fetchPlace s).toNat [highByte (tableWord nbits w), lowByte (tableWord nbits w)]).read a := fun _ => rfl
  have ep : (s.withFetchWord nbits w).pc = fetchPlace s := rfl
  rw [fetch_eq, ep, if_pos hp, State.readWord, e, e, Memory.read_writeBytes, Memory.read_writeBytes]
  simp

end Sys2Proof.Machine
end

