-- ==== Sys2Proof/Tests/Slice0.lean ====
section
/-! SUPPORT. Tests on fixed values, expected results from spec 95_test_vectors.md (the vector is named at each) or from the map of 30 R84; and the witnesses that the hypotheses of the statements can be met. -/

namespace Sys2Proof.Tests

open Sys2Proof.Machine

/-! Helpers. -/

/-- A configuration with all four toggles at `b` and the parameters' defaults. -/
def toggled (b : Bool) : Config := ⟨b, b, b, b, none, true⟩

/-- The reset state with all toggles at `b` and the registers named set. -/
def rig (b : Bool) (regs : List (Reg × Byte)) : State :=
  regs.foldl (fun s p => s.setV p.1 p.2) { State.reset with cfg := toggled b }

/-- `s` with bytes written from `a` on. -/
def place (s : State) (a : Nat) (bytes : List Byte) : State := s.setMemory (s.memory.writeBytes a bytes)

/-- `s` with the pixels (column, row) set. -/
def light (s : State) (ps : List (Nat × Nat)) : State :=
  s.setFramebuffer (ps.foldl (fun fb p => fb.setPixel p.2 p.1 true) s.framebuffer)

/-- `s` with a pending list of operations. -/
def ask (s : State) (rs : List Operation) : State := s.setRequests rs

/-- The step of the instruction clock. -/
def stepOnce (s : State) : Answer := step (ask s [.stepInstruction])

/-- The step on the word `op` placed at pc. -/
def runWord (s : State) (op : Nat) : Answer := step (s.withFetchWord 16 op)

/-- The answer is a next state with `p`. -/
def after (a : Answer) (p : State → Bool) : Bool :=
  match a with
  | .next t => p t
  | .fault _ => false
  | .refused _ => false

/-- The answer is MemoryOutOfRange with this address, and the reported state has `p`. -/
def stopsAt (a : Answer) (addr : Nat) (p : State → Bool) : Bool :=
  match a with
  | .next _ => false
  | .fault (.memoryOutOfRange b t) => b == addr && p t
  | .refused _ => false

/-! WellFormed: each check refuses an ill-formed term. -/

/-- 0x00E0 and 0x00EE are never System (30 R87). -/
theorem test_wf_refuses_system_fixed : (Instr.system 0x0E0).wf = false ∧ (Instr.system 0x0EE).wf = false := by decide

/-- The register number of BNNN is the top nibble of the address (30 R82). -/
theorem test_wf_refuses_offset_register : (Instr.jumpWithOffset 1 0x234).wf = false := by decide

theorem test_wf_accepts : (Instr.system 0x1E0).wf = true ∧ (Instr.jumpWithOffset 2 0x234).wf = true := by decide

/-! Decode: one word for each row, written out from its pattern (30 R84; 95 T-E1, T-E2, T-E4). -/

theorem test_decode_system_control :
    decode 0x00E0 = .ok .displayClear ∧ decode 0x00EE = .ok .subroutineReturn ∧ decode 0x0123 = .ok (.system 0x123)
    ∧ decode 0x1ABC = .ok (.jump 0xABC) ∧ decode 0x2234 = .ok (.subroutineCall 0x234)
    ∧ decode 0x332A = .ok (.skipIfVxEqualsValue 3 0x2A) ∧ decode 0x432A = .ok (.skipIfVxNotEqualsValue 3 0x2A)
    ∧ decode 0x5120 = .ok (.skipIfVxEqualsVy 1 2) ∧ decode 0x9120 = .ok (.skipIfVxNotEqualsVy 1 2)
    ∧ decode 0xB234 = .ok (.jumpWithOffset 2 0x234) := by decide

theorem test_decode_alu :
    decode 0x6A42 = .ok (.setRegisterWithValue 0xA 0x42) ∧ decode 0x7102 = .ok (.addValueToRegister 1 0x02)
    ∧ decode 0x8120 = .ok (.setVxWithVy 1 2) ∧ decode 0x8121 = .ok (.orVxWithVy 1 2) ∧ decode 0x8122 = .ok (.andVxWithVy 1 2)
    ∧ decode 0x8123 = .ok (.xorVxWithVy 1 2) ∧ decode 0x8124 = .ok (.addVxWithVy 1 2)
    ∧ decode 0x8125 = .ok (.subtractVxWithVy 1 2) ∧ decode 0x8126 = .ok (.shift1RightVxWithVy 1 2)
    ∧ decode 0x8127 = .ok (.subtractVyWithVx 1 2) ∧ decode 0x812E = .ok (.shift1LeftVxWithVy 1 2) := by decide

theorem test_decode_index_memory_display :
    decode 0xA2F0 = .ok (.setIndex 0x2F0) ∧ decode 0xF11E = .ok (.addToIndex 1) ∧ decode 0xF029 = .ok (.setIndexToCharacter 0)
    ∧ decode 0xF733 = .ok (.storeBcd 7) ∧ decode 0xF255 = .ok (.storeRegisters 2) ∧ decode 0xF265 = .ok (.loadRegisters 2)
    ∧ decode 0xD125 = .ok (.displayDraw 1 2 5) := by decide

theorem test_decode_random_timers_keys :
    decode 0xC10F = .ok (.random 1 0x0F) ∧ decode 0xF207 = .ok (.getDelayTimer 2) ∧ decode 0xF115 = .ok (.setDelayTimer 1)
    ∧ decode 0xF118 = .ok (.setSoundTimer 1) ∧ decode 0xE29E = .ok (.skipIfKeyPressed 2)
    ∧ decode 0xE2A1 = .ok (.skipIfKeyNotPressed 2) ∧ decode 0xF30A = .ok (.waitForKey 3) := by decide

/-- 95 T-E2: only the two FIXED words leave the 0NNN row. -/
theorem test_decode_priority :
    decode 0x0000 = .ok (.system 0x000) ∧ decode 0x00E1 = .ok (.system 0x0E1) ∧ decode 0x00EF = .ok (.system 0x0EF)
    ∧ decode 0x01E0 = .ok (.system 0x1E0) ∧ decode 0x0FFF = .ok (.system 0xFFF) := by decide

/-- 95 T-E3: unknown words under 5, 8 and 9. -/
theorem test_decode_unknown_registers :
    decode 0x5121 = .error (.unknownOpcode 0x5121)
    ∧ decode 0x512F = .error (.unknownOpcode 0x512F)
    ∧ decode 0x8128 = .error (.unknownOpcode 0x8128)
    ∧ decode 0x812D = .error (.unknownOpcode 0x812D)
    ∧ decode 0x812F = .error (.unknownOpcode 0x812F)
    ∧ decode 0x9121 = .error (.unknownOpcode 0x9121) := by decide

/-- 95 T-E3: unknown words under E and F. -/
theorem test_decode_unknown_codes :
    decode 0xE100 = .error (.unknownOpcode 0xE100)
    ∧ decode 0xE19F = .error (.unknownOpcode 0xE19F)
    ∧ decode 0xE1A0 = .error (.unknownOpcode 0xE1A0)
    ∧ decode 0xF100 = .error (.unknownOpcode 0xF100)
    ∧ decode 0xF106 = .error (.unknownOpcode 0xF106)
    ∧ decode 0xF10B = .error (.unknownOpcode 0xF10B)
    ∧ decode 0xF1FF = .error (.unknownOpcode 0xF1FF) := by decide

/-- 20 R53: the byte at the lower address is the more significant; the table's numbering is that of the word. -/
theorem test_table_word : decodeTableWord 16 0xD125 = some (.displayDraw 1 2 5) ∧ decodeTableWord 16 0x8128 = none := by decide

/-! The step (95 T-X, P5). -/

/-- 95 T-X1, T-X2: byte order, and the last address a word can be fetched from. -/
theorem test_step_fetch_top :
    after (stepOnce ((place (rig false []) 0xFFE [0x60, 0x05]).setPc 0x0FFE)) (fun t => t.getV 0 = 5 ∧ t.pc = 0x1000) = true := by decide

/-- 95 T-X3: no word lies wholly in memory at 0xFFF, and at 0x10FE. -/
theorem test_step_fetch_out_of_range :
    stopsAt (stepOnce ((rig false []).setPc 0x0FFF)) 0x1000 (fun t => t.pc = 0x0FFF) = true
    ∧ stopsAt (stepOnce ((rig false []).setPc 0x10FE)) 0x10FE (fun t => t.pc = 0x10FE) = true := by decide

/-- 95 P5: an unknown word is reported and pc is past it. -/
theorem test_step_unknown :
    after (runWord (rig false []) 0x8128) (fun t => t.result = .error (.unknownOpcode 0x8128) ∧ t.pc = 0x202) = true := by decide

/-- 95 T-X4: an odd pc fetches the word that starts there. -/
theorem test_step_odd_pc :
    after (stepOnce ((place (rig false []) 0x200 [0x12, 0x61, 0x07]).setPc 0x0201)) (fun t => t.getV 1 = 7 ∧ t.pc = 0x203) = true := by
  decide

/-! External operations (95 T-T3, T-K3 to T-K6, T-R). -/

/-- 95 T-T3: DT = 1, ST = 0, and DT = 0, ST = 2. -/
theorem test_tick :
    after (step (ask ((rig false []).setDelay 1) [.tickTimer])) (fun t => t.delayTimer = 0 ∧ t.soundTimer = 0) = true
    ∧ after (step (ask ((rig false []).setSound 2) [.tickTimer])) (fun t => t.delayTimer = 0 ∧ t.soundTimer = 1) = true := by decide

/-- 95 T-K3, T-K6: a press during a wait, and an invalid key. -/
theorem test_press :
    after (step (ask ((rig false []).setXs (.waitingForKey 3)) [.pressKey 0xB]))
      (fun t => t.getKey 0xB ∧ t.xs = .waitingForKey 3) = true
    ∧ after (step (ask (rig false []) [.pressKey 16])) (fun t => t.result = .error (.invalidKey 16)) = true := by decide

/-- 95 T-K4, T-K6: a release ends a wait with the key's number, VF as the register; an invalid one leaves the wait. -/
theorem test_release :
    after (step (ask ((rig false []).setXs (.waitingForKey 0xF)) [.releaseKey 9])) (fun t => t.getV vf = 9 ∧ t.xs = .ready) = true
    ∧ after (step (ask ((rig false []).setXs (.waitingForKey 3)) [.releaseKey 16]))
      (fun t => t.result = .error (.invalidKey 16) ∧ t.xs = .waitingForKey 3) = true := by decide

/-- 95 T-R1, T-R6. -/
theorem test_reset :
    after (step (ask ((place (rig true [(1, 9)]) 0x200 [7]).setKey 4 true) [.reset]))
      (fun t => t.readByte 0x200 = 0 ∧ t.readByte 0x050 = 0xF0 ∧ t.readByte 0x055 = 0x20 ∧ t.readByte 0x09F = 0x80
        ∧ t.readByte 0x04F = 0 ∧ t.readByte 0x0A0 = 0 ∧ t.getV 1 = 0 ∧ t.getKey 4 = false ∧ t.pc = 0x200) = true := by decide

/-- 95 T-R2, T-R5: a load during a wait. -/
theorem test_load :
    after (step (ask ((rig false []).setXs (.waitingForKey 3)) [.load [0x12, 0x34]]))
      (fun t => t.xs = .ready ∧ t.readByte 0x200 = 0x12 ∧ t.readByte 0x201 = 0x34 ∧ t.readByte 0x050 = 0xF0) = true := by decide

/-! Control flow (95 T-C, P5). -/

/-- 95 T-C6. -/
theorem test_system :
    after (runWord (rig false []) 0x0123)
      (fun t => t.result = .error (.unsupportedInstruction (.system 0x123)) ∧ t.pc = 0x202) = true := by decide

/-- 95 T-C3 step 3. -/
theorem test_return :
    after (runWord (((rig false []).setStack [0x0206, 0x0202]).setPc 0x208) 0x00EE)
      (fun t => t.pc = 0x206 ∧ t.stack = [0x0202]) = true := by decide

/-- 95 T-C4. -/
theorem test_return_empty :
    after (runWord (rig false []) 0x00EE) (fun t => t.result = .error .stackUnderflow ∧ t.pc = 0x202 ∧ t.stack = []) = true := by
  decide

/-- 95 T-C1. -/
theorem test_jump : after (runWord (rig false []) 0x1ABC) (fun t => t.pc = 0x0ABC) = true := by decide

/-- 95 T-C2. -/
theorem test_call : after (runWord (rig false []) 0x2234) (fun t => t.stack = [0x0202] ∧ t.pc = 0x234) = true := by decide

/-- 95 T-C5 step 3. -/
theorem test_call_full :
    after (runWord ({ rig false [] with cfg := { toggled false with stackDepth := some 2 } }.setStack [0x0202, 0x0202]) 0x2200)
      (fun t => t.result = .error .stackOverflow ∧ t.pc = 0x202 ∧ t.stack = [0x0202, 0x0202]) = true := by decide

/-- 95 T-C7. -/
theorem test_skip_equal_value :
    after (runWord (rig false [(3, 0x2A)]) 0x332A) (fun t => t.pc = 0x204) = true
    ∧ after (runWord (rig false [(3, 0x2A)]) 0x332B) (fun t => t.pc = 0x202) = true := by decide

/-- 95 T-C8. -/
theorem test_skip_not_equal_value :
    after (runWord (rig false [(3, 0x2A)]) 0x432A) (fun t => t.pc = 0x202) = true
    ∧ after (runWord (rig false [(3, 0x2A)]) 0x4300) (fun t => t.pc = 0x204) = true := by decide

/-- 95 T-C9. -/
theorem test_skip_equal_registers :
    after (runWord (rig false [(1, 7), (2, 7)]) 0x5120) (fun t => t.pc = 0x204) = true
    ∧ after (runWord (rig false [(1, 7), (2, 8)]) 0x5120) (fun t => t.pc = 0x202) = true := by decide

/-- 95 T-C10. -/
theorem test_skip_not_equal_registers :
    after (runWord (rig false [(1, 7), (2, 8)]) 0x9120) (fun t => t.pc = 0x204) = true
    ∧ after (runWord (rig false [(1, 7), (2, 7)]) 0x9120) (fun t => t.pc = 0x202) = true := by decide

/-- 95 T-C12, both settings. -/
theorem test_jump_offset :
    after (runWord (rig false [(0, 0x10), (2, 0x04)]) 0xB234) (fun t => t.pc = 0x244) = true
    ∧ after (runWord (rig true [(0, 0x10), (2, 0x04)]) 0xB234) (fun t => t.pc = 0x238) = true := by decide

/-- 95 T-C12: the sum is not reduced to 12 bits. -/
theorem test_jump_offset_top : after (runWord (rig true [(0xF, 0xFF)]) 0xBFFF) (fun t => t.pc = 0x10FE) = true := by decide

/-! Register file and ALU (95 T-A, E6, E7). -/

/-- 95 T-A1. -/
theorem test_set_value : after (runWord (rig false []) 0x6AFF) (fun t => t.getV 0xA = 0xFF ∧ t.getV vf = 0) = true := by decide

/-- 95 T-A2: no carry flag. -/
theorem test_add_value : after (runWord (rig false [(1, 0xFF)]) 0x7102) (fun t => t.getV 1 = 0x01 ∧ t.getV vf = 0) = true := by decide

/-- 95 T-A3. -/
theorem test_copy : after (runWord (rig false [(1, 3), (2, 9)]) 0x8120) (fun t => t.getV 1 = 9 ∧ t.getV 2 = 9) = true := by decide

/-- 95 T-A4. -/
theorem test_or :
    after (runWord (rig false [(1, 0x0F), (2, 0xF0), (0xF, 5)]) 0x8121) (fun t => t.getV 1 = 0xFF ∧ t.getV vf = 5) = true := by decide

/-- 95 T-A4. -/
theorem test_and :
    after (runWord (rig false [(1, 0x3C), (2, 0x0F), (0xF, 5)]) 0x8122) (fun t => t.getV 1 = 0x0C ∧ t.getV vf = 5) = true := by decide

/-- 95 T-A4. -/
theorem test_xor :
    after (runWord (rig false [(1, 0x3C), (2, 0x0F), (0xF, 5)]) 0x8123) (fun t => t.getV 1 = 0x33 ∧ t.getV vf = 5) = true := by decide

/-- 95 T-A5: a wrap sets the flag, no wrap clears it. -/
theorem test_add :
    after (runWord (rig false [(1, 0xFF), (2, 0x01)]) 0x8124) (fun t => t.getV 1 = 0x00 ∧ t.getV vf = 1) = true
    ∧ after (runWord (rig false [(1, 0x10), (2, 0x20), (0xF, 1)]) 0x8124) (fun t => t.getV 1 = 0x30 ∧ t.getV vf = 0) = true := by
  decide

/-- 95 T-A6: the flag wins over the sum; VF as the second operand. -/
theorem test_add_flag_operand :
    after (runWord (rig false [(1, 0x02), (0xF, 0x01)]) 0x8F14) (fun t => t.getV vf = 0) = true
    ∧ after (runWord (rig false [(1, 0xF0), (0xF, 0x20)]) 0x81F4) (fun t => t.getV 1 = 0x10 ∧ t.getV vf = 1) = true := by decide

/-- 95 E6. -/
theorem test_subtract_borrow :
    after (runWord (rig false [(1, 15), (2, 17)]) 0x8125) (fun t => t.getV 1 = 254 ∧ t.getV vf = 0 ∧ t.getV 2 = 17) = true := by decide

/-- 95 T-A7: equal operands do not borrow. -/
theorem test_subtract_equal :
    after (runWord (rig false [(1, 7), (2, 7)]) 0x8125) (fun t => t.getV 1 = 0 ∧ t.getV vf = 1) = true := by decide

/-- 95 T-A8. -/
theorem test_subtract_reversed :
    after (runWord (rig false [(1, 15), (2, 17)]) 0x8127) (fun t => t.getV 1 = 2 ∧ t.getV vf = 1) = true
    ∧ after (runWord (rig false [(1, 17), (2, 15)]) 0x8127) (fun t => t.getV 1 = 0xFE ∧ t.getV vf = 0) = true := by decide

/-- 95 E7, both settings. -/
theorem test_shift_right :
    after (runWord (rig false [(1, 0x05), (2, 0x30)]) 0x8126) (fun t => t.getV 1 = 0x18 ∧ t.getV vf = 0 ∧ t.getV 2 = 0x30) = true
    ∧ after (runWord (rig true [(1, 0x05), (2, 0x30)]) 0x8126) (fun t => t.getV 1 = 0x02 ∧ t.getV vf = 1 ∧ t.getV 2 = 0x30) = true := by
  decide

/-- 95 T-A9: VF as the source, and as the destination. -/
theorem test_shift_right_flag :
    after (runWord (rig false [(0xF, 0x03)]) 0x81F6) (fun t => t.getV 1 = 0x01 ∧ t.getV vf = 1) = true
    ∧ after (runWord (rig false [(2, 0x02)]) 0x8F26) (fun t => t.getV vf = 0) = true := by decide

/-- 95 T-A10, both settings. -/
theorem test_shift_left :
    after (runWord (rig false [(1, 0x40), (2, 0x81)]) 0x812E) (fun t => t.getV 1 = 0x02 ∧ t.getV vf = 1 ∧ t.getV 2 = 0x81) = true
    ∧ after (runWord (rig true [(1, 0x40), (2, 0x81)]) 0x812E) (fun t => t.getV 1 = 0x80 ∧ t.getV vf = 0) = true := by decide

/-! Index register and memory (95 T-M). -/

/-- 95 T-M1. -/
theorem test_set_index : after (runWord (rig false []) 0xA2F0) (fun t => t.index = 0x02F0) = true := by decide

/-- 95 T-M2: the sum 0x1000 exactly, under both values of the parameter, and with the toggle off. -/
theorem test_add_index_at_1000 :
    after (runWord ((rig true [(1, 2)]).setIndex 0x0FFE) 0xF11E) (fun t => t.index = 0x1000 ∧ t.getV vf = 1) = true
    ∧ after (runWord ({ rig true [(1, 2)] with cfg := { toggled true with addiOvfAt1000 := false } }.setIndex 0x0FFE) 0xF11E)
      (fun t => t.index = 0x1000 ∧ t.getV vf = 0) = true
    ∧ after (runWord ((rig false [(1, 2)]).setIndex 0x0FFE) 0xF11E) (fun t => t.index = 0x1000 ∧ t.getV vf = 0) = true := by decide

/-- 95 T-M2 last but one line, T-M3: the wrap at 65536, and VF never cleared. -/
theorem test_add_index_wrap :
    after (runWord ((rig true [(1, 2)]).setIndex 0xFFFF) 0xF11E) (fun t => t.index = 0x0001 ∧ t.getV vf = 1) = true
    ∧ after (runWord ((rig true [(1, 5), (0xF, 1)]).setIndex 0x0100) 0xF11E) (fun t => t.index = 0x0105 ∧ t.getV vf = 1) = true := by
  decide

/-- 95 T-M4: only the low nibble counts. -/
theorem test_character : after (runWord (rig false [(0, 0x1A)]) 0xF029) (fun t => t.index = 0x0082) = true := by decide

/-- 95 T-M5. -/
theorem test_bcd :
    after (runWord ((rig true [(0, 254)]).setIndex 0x300) 0xF033)
      (fun t => t.readByte 0x300 = 2 ∧ t.readByte 0x301 = 5 ∧ t.readByte 0x302 = 4 ∧ t.index = 0x300) = true := by decide

/-- 95 T-M6. -/
theorem test_bcd_top :
    stopsAt (runWord ((rig false [(0, 123)]).setIndex 0x0FFE) 0xF033) 0x1000
      (fun t => t.readByte 0xFFE = 0 ∧ t.readByte 0xFFF = 0 ∧ t.pc = 0x202) = true := by decide

/-- 95 T-M7, both settings. -/
theorem test_store_registers :
    after (runWord ((rig false [(0, 0x11), (1, 0x22), (2, 0x33), (3, 0x44)]).setIndex 0x400) 0xF255)
      (fun t => t.readByte 0x400 = 0x11 ∧ t.readByte 0x402 = 0x33 ∧ t.readByte 0x403 = 0 ∧ t.index = 0x400) = true
    ∧ after (runWord ((rig true [(0, 0xAB)]).setIndex 0x0FFF) 0xF055) (fun t => t.readByte 0xFFF = 0xAB ∧ t.index = 0x1000) = true := by
  decide

/-- 95 T-M7: the fault leaves memory and I. -/
theorem test_store_registers_top :
    stopsAt (runWord ((rig true [(0, 0xAB)]).setIndex 0x0FFF) 0xF155) 0x1000
      (fun t => t.readByte 0xFFF = 0 ∧ t.index = 0x0FFF ∧ t.pc = 0x202) = true := by decide

/-- 95 T-M8. -/
theorem test_load_registers :
    after (runWord (place ((rig true [(3, 0x77)]).setIndex 0x300) 0x300 [2, 5, 4]) 0xF265)
      (fun t => t.getV 0 = 2 ∧ t.getV 1 = 5 ∧ t.getV 2 = 4 ∧ t.getV 3 = 0x77 ∧ t.index = 0x303) = true := by decide

/-- 95 T-M8: no register changes. -/
theorem test_load_registers_top :
    stopsAt (runWord ((rig false [(0, 9)]).setIndex 0x0FFF) 0xF165) 0x1000 (fun t => t.getV 0 = 9 ∧ t.getV 1 = 0) = true := by decide

/-! Display (95 T-D, E5). -/

/-- 95 T-D1. -/
theorem test_clear :
    after (runWord (light (rig false [(0xF, 1)]) [(0, 0), (63, 31)]) 0x00E0)
      (fun t => t.framebuffer = clearedFramebuffer ∧ t.getV vf = 1) = true := by decide

/-- 95 E5: bit 7 leftmost, a collision, and pixels outside the sprite's set bits kept. -/
theorem test_draw_example :
    after (runWord (light (place ((rig false [(4, 1), (6, 2)]).setIndex 0x300) 0x300 [0xBF, 0x49])
      [(1, 2), (2, 2), (3, 2), (1, 3), (2, 3), (3, 3)]) 0xD462)
      (fun t => !t.framebuffer.pixel 2 1 && t.framebuffer.pixel 2 2 && !t.framebuffer.pixel 2 3 && t.framebuffer.pixel 2 8
        && t.framebuffer.pixel 3 1 && !t.framebuffer.pixel 3 2 && t.framebuffer.pixel 3 3 && t.getV vf = 1) = true := by decide

/-- 95 T-D4: rows below the bottom are clipped and not read. -/
theorem test_draw_clipped :
    after (runWord (place ((rig false [(1, 30)]).setIndex 0x0FFE) 0xFFE [0x80, 0x40]) 0xD015)
      (fun t => t.framebuffer.pixel 30 0 && t.framebuffer.pixel 31 1 && !t.framebuffer.pixel 0 0 && t.getV vf = 0) = true := by decide

/-! Random, timers, keyboard (95 T-T, T-K). -/

/-- 95 T-T1: 0xC000 gives 0 for every draw. -/
theorem test_random_masked (s : State) : ∃ t, exec (.random 0 0x00) s = .next t ∧ t.getV 0 = 0 :=
  ⟨_, rfl, by simp [State.getV, State.setDraws, State.setV]⟩

/-- 95 T-T2. -/
theorem test_get_delay : after (runWord ((rig false []).setDelay 0x3C) 0xF207) (fun t => t.getV 2 = 0x3C) = true := by decide

/-- 95 T-T2. -/
theorem test_set_timers :
    after (runWord (rig false [(1, 0x3C)]) 0xF115) (fun t => t.delayTimer = 0x3C ∧ t.soundTimer = 0) = true
    ∧ after (runWord (rig false [(1, 0x3C)]) 0xF118) (fun t => t.soundTimer = 0x3C ∧ t.delayTimer = 0) = true := by decide

/-- 95 T-K1, T-K2. -/
theorem test_skip_pressed :
    after (runWord ((rig false [(2, 7)]).setKey 7 true) 0xE29E) (fun t => t.pc = 0x204) = true
    ∧ after (runWord (rig false [(2, 0x10)]) 0xE29E) (fun t => t.result = .error (.invalidKey 0x10) ∧ t.pc = 0x202) = true := by decide

/-- 95 T-K1, T-K2. -/
theorem test_skip_not_pressed :
    after (runWord ((rig false [(2, 7)]).setKey 7 true) 0xE2A1) (fun t => t.pc = 0x202) = true
    ∧ after (runWord (rig false [(2, 0x0F)]) 0xE2A1) (fun t => t.pc = 0x204) = true := by decide

/-- 95 T-K3. -/
theorem test_wait : after (runWord (rig false [(3, 5)]) 0xF30A) (fun t => t.xs = .waitingForKey 3 ∧ t.pc = 0x202 ∧ t.getV 3 = 5) = true := by
  decide

/-! Witnesses: for each statement with hypotheses, a state and operands that meet them, at boundary values, one for each clause. -/

theorem witness_DecodeOfEncode : (Instr.jumpWithOffset 0xF 0xFFF).wf = true ∧ (Instr.system 0x0EF).wf = true := by decide

theorem witness_EncodeOfDecode_DecodedWordMatchesRow : decode 0xFF65 = .ok (.loadRegisters 0xF) := by decide

theorem witness_DecodedWordMatchesRow_system :
    (0x00E1#16) &&& 0xF000#16 = 0x0000#16 ∧ (0x00E1#16) ≠ 0x00E0#16 ∧ (0x00E1#16) ≠ 0x00EE#16 := by decide

theorem witness_UnknownWordClasses :
    decode 0x5FFF = .error (.unknownOpcode 0x5FFF) ∧ decode 0x9001 = .error (.unknownOpcode 0x9001)
    ∧ decode 0x8008 = .error (.unknownOpcode 0x8008) ∧ decode 0xE0A0 = .error (.unknownOpcode 0xE0A0)
    ∧ decode 0xFF66 = .error (.unknownOpcode 0xFF66) := by decide

/-- Waiting; a fetch just outside memory; a fetch just inside, of a known word and of an unknown one. -/
theorem witness_StepInstructionSequence :
    ((rig false []).setXs (.waitingForKey 3)).xs = .waitingForKey 3
    ∧ ((rig false []).setPc 0xFFF).xs = .ready ∧ 0xFFE < ((rig false []).setPc 0xFFF).pc.toNat
    ∧ ((rig false []).setPc 0xFFE).pc.toNat ≤ 0xFFE
    ∧ (0x6005#16).toNat = ((place (rig false []) 0xFFE [0x60, 0x05]).readByte 0xFFE).toNat * 256
        + ((place (rig false []) 0xFFE [0x60, 0x05]).readByte 0xFFF).toNat
    ∧ decode 0x6005 = .ok (.setRegisterWithValue 0 5)
    ∧ (0x8128#16).toNat = ((place (rig false []) 0xFFE [0x81, 0x28]).readByte 0xFFE).toNat * 256
        + ((place (rig false []) 0xFFE [0x81, 0x28]).readByte 0xFFF).toNat
    ∧ decode 0x8128 = .error (.unknownOpcode 0x8128) := by decide

/-- With one request listed, with more, and with none, where the free value gives the operation. -/
theorem witness_StepRunsDecodedInstruction :
    (∀ s ∈ [ask ((place (rig false []) 0xFFE [0x60, 0x05]).setPc 0xFFE) [.stepInstruction],
        ask ((place (rig false []) 0xFFE [0x60, 0x05]).setPc 0xFFE) [.stepInstruction, .tickTimer]],
      nextOperation s = .stepInstruction ∧ s.requests ≠ [] ∧ s.xs = .ready ∧ s.pc.toNat ≤ 0xFFE
      ∧ (Instr.setRegisterWithValue 0 5).wf = true
      ∧ decode (assembleWord (s.readByte s.pc.toNat) (s.readByte (s.pc.toNat + 1))) = .ok (.setRegisterWithValue 0 5))
    ∧ (rig false []).requests = [] := by decide

theorem witness_UnknownWordIsReported :
    let s := ask ((place (rig false []) 0xFFE [0x81, 0x28]).setPc 0xFFE) [.stepInstruction]
    nextOperation s = .stepInstruction ∧ s.xs = .ready ∧ s.pc.toNat ≤ 0xFFE
    ∧ 0x8128#16 = assembleWord (s.readByte s.pc.toNat) (s.readByte (s.pc.toNat + 1))
    ∧ decode 0x8128#16 = .error (.unknownOpcode 0x8128#16) := by decide

theorem witness_FetchOutsideMemoryFaults :
    ∀ s ∈ [ask ((rig false []).setPc 0xFFF) [.stepInstruction], ask ((rig false []).setPc 0x1000) [.stepInstruction]],
      nextOperation s = .stepInstruction ∧ s.xs = .ready ∧ 0xFFE < s.pc.toNat := by decide

/-- A timer at 0, at 1 and at 255. -/
theorem witness_TickCountsDown :
    ∀ s ∈ [rig false [], ((rig false []).setDelay 1).setSound 255], nextOperation (ask s [.tickTimer]) = .tickTimer := by decide

theorem witness_PressKeySetsFlag :
    nextOperation (ask (rig false []) [.pressKey 15]) = .pressKey 15 ∧ (15#8).toNat ≤ 15
    ∧ nextOperation (ask (rig false []) [.pressKey 16]) = .pressKey 16 ∧ 15 < (16#8).toNat := by decide

theorem witness_ReleaseKeyResolvesWait :
    let ready := ask (rig false []) [.releaseKey 15]
    let waiting := (ask (rig false []) [.releaseKey 0]).setXs (.waitingForKey 0xF)
    let wrong := (ask (rig false []) [.releaseKey 16]).setXs (.waitingForKey 3)
    (nextOperation ready = .releaseKey 15 ∧ (15#8).toNat ≤ 15 ∧ ready.xs = .ready)
    ∧ (nextOperation waiting = .releaseKey 0 ∧ (0#8).toNat ≤ 15 ∧ waiting.xs = .waitingForKey 0xF)
    ∧ (nextOperation wrong = .releaseKey 16 ∧ 15 < (16#8).toNat) := by decide

/-- Each of the three ways a wait ends. -/
theorem witness_OnlyReleaseOrResetEndsWait :
    ∀ op ∈ [Operation.releaseKey 15, Operation.reset, Operation.load [0x12, 0x34]],
      let s := (ask (rig false []) [op]).setXs (.waitingForKey 3)
      s.xs = .waitingForKey 3 ∧ after (step s) (fun t => t.xs ≠ .waitingForKey 3) = true := by decide

theorem witness_ResetLeavesResetValues : nextOperation (ask (place (rig true [(1, 9)]) 0x200 [7]) [.reset]) = .reset := by decide

/-- Two states that differ in registers, memory and keys agree in what a reset keeps. -/
theorem witness_ResetIsComplete :
    let s := rig true [(1, 9)]
    let v := (place (rig true []) 0x200 [7]).setKey 4 true
    (s.cfg = v.cfg ∧ s.draws = v.draws ∧ s.requests = v.requests ∧ s.arrivals = v.arrivals ∧ s.result = v.result)
    ∧ ∃ t u, perform .reset s = .next t ∧ [0x12#8, 0x34#8].length ≤ 3584 ∧ perform (.load [0x12, 0x34]) s = .next u :=
  ⟨⟨rfl, rfl, rfl, rfl, rfl⟩, _, _, rfl, by decide, rfl⟩

/-- The largest ROM that fits and the smallest that does not. -/
theorem witness_LoadPlacesRom (s : State) :
    (nextOperation (s.setRequests [.load (List.replicate 3584 0)]) = .load (List.replicate 3584 0)
      ∧ (List.replicate 3584 (0#8)).length ≤ 3584)
    ∧ (nextOperation (s.setRequests [.load (List.replicate 3585 0)]) = .load (List.replicate 3585 0)
      ∧ 3584 < (List.replicate 3585 (0#8)).length) :=
  ⟨⟨rfl, by rw [List.length_replicate]⟩, ⟨rfl, by rw [List.length_replicate]; decide⟩⟩

theorem witness_FramebufferReadChangesNothing :
    nextOperation (ask (rig false []) [.readFramebuffer]) = .readFramebuffer := by decide

theorem witness_ReturnPopsPc :
    ((rig false []).setStack [0x0206, 0x0202]).stack = 0x0206 :: [0x0202] ∧ (rig false []).stack = [] := by decide

/-- The unbounded stack, a finite one with one place left, and the same stack full. -/
theorem witness_CallPushesPc_ReturnUndoesCall :
    let bounded := { rig false [] with cfg := { toggled false with stackDepth := some 2 } }
    (rig false []).cfg.stackDepth ≠ some (rig false []).stack.length
    ∧ (bounded.setStack [0x0202]).cfg.stackDepth ≠ some (bounded.setStack [0x0202]).stack.length
    ∧ (bounded.setStack [0x0202, 0x0202]).cfg.stackDepth = some (bounded.setStack [0x0202, 0x0202]).stack.length := by decide

/-- The destinations for which the sum, the difference or the shifted value remains: all but VF. -/
theorem witness_AddSetsCarry_Subtract_Shift : (0xE#4 : Reg) ≠ vf ∧ (0x0#4 : Reg) ≠ vf := by decide

theorem witness_BcdStoresDigits :
    ((rig false []).setIndex 0xFFD).index.toNat + 2 ≤ 0xFFF ∧ 0xFFF < ((rig false []).setIndex 0xFFE).index.toNat + 2 := by decide

theorem witness_StoreRegisters_LoadRegisters :
    ((rig false []).setIndex 0xFF0).index.toNat + (0xF#4).toNat ≤ 0xFFF ∧ (0xF#4 : Reg).toNat ≤ (0xF#4 : Reg).toNat
    ∧ 0xFFF < ((rig false []).setIndex 0xFF1).index.toNat + (0xF#4).toNat := by decide

theorem witness_StoredWordIsFetched :
    ∃ t, 1 ≤ (1#4).toNat ∧ exec (.storeRegisters 1) ((rig false [(0, 0x6B)]).setIndex 0xFFE) = .next t := ⟨_, by decide, rfl⟩

/-- No row drawn, with I outside memory; the last row drawn at 0xFFF; one row further. -/
theorem witness_DrawXorsClippedSprite :
    min (0#4).toNat (32 - (((rig false []).setIndex 0x2000).getV 1).toNat % 32) = 0
    ∧ ((rig false []).setIndex 0xFFB).index.toNat + min (5#4).toNat (32 - (((rig false []).setIndex 0xFFB).getV 1).toNat % 32) - 1 ≤ 0xFFF
    ∧ 0 < min (5#4).toNat (32 - (((rig false []).setIndex 0xFFC).getV 1).toNat % 32)
    ∧ 0xFFF < ((rig false []).setIndex 0xFFC).index.toNat + min (5#4).toNat (32 - (((rig false []).setIndex 0xFFC).getV 1).toNat % 32) - 1 := by
  decide

theorem witness_DrawTwiceRestoresScreen :
    ∃ t u, (0#4 : Reg) ≠ vf ∧ (1#4 : Reg) ≠ vf ∧ exec (.displayDraw 0 1 1) ((rig false []).setIndex 0x50) = .next t
      ∧ exec (.displayDraw 0 1 1) t = .next u := ⟨_, _, by decide, by decide, rfl, rfl⟩

theorem witness_KeySkips :
    ((rig false [(2, 0x0F)]).getV 2).toNat = (0xF#4).toNat ∧ 15 < ((rig false [(2, 0x10)]).getV 2).toNat := by decide

/-- FX0A at the last place a word can be fetched from; steps, a press of the key to be released, one of another, one of no key. -/
theorem witness_KeyWaitDeliversReleasedKey :
    let quiet := [Operation.stepInstruction, .pressKey 15, .pressKey 0, .pressKey 16, .stepInstruction]
    let s := ask ((place (rig false []) 0xFFE [0xFF, 0x0A]).setPc 0xFFE) (.stepInstruction :: (quiet ++ [.releaseKey 15]))
    (15#8).toNat ≤ 15 ∧ s.xs = .ready ∧ s.pc.toNat ≤ 0xFFE
    ∧ assembleWord (s.readByte s.pc.toNat) (s.readByte (s.pc.toNat + 1)) = 0xF#4 ++ 0xF#4 ++ 0x0A#8
    ∧ (∀ op ∈ quiet, op = .stepInstruction ∨ ∃ j : Byte, op = .pressKey j)
    ∧ s.requests = .stepInstruction :: (quiet ++ [.releaseKey 15])
    ∧ 0#4 ∈ pressedKeys quiet ∧ (0#4).toNat ≠ (15#8).toNat :=
  ⟨by decide, rfl, by decide, by decide, by simp, rfl, by decide, by decide⟩

theorem witness_inv (s : State) (hm : s.memory = []) (hp : s.pc = 0xFFE) (hs : s.stack = [0x1000]) (hd : s.cfg.stackDepth = some 1) :
    Inv s := by
  refine ⟨?_, ?_, ?_, ?_⟩
  · rw [hm]; rfl
  · simp [hp]
  · simp [hs]
  · intro d h
    rw [hd] at h
    rw [hs]
    cases h
    decide

/-- A state that meets the invariant at its bounds: the last place to fetch from, a full stack, a return address of 0x1000. -/
def edge : State := { rig false [] with pc := 0xFFE, stack := [0x1000], cfg := { toggled false with stackDepth := some 1 } }

theorem witness_StepKeepsInvariant : ∃ t, Inv (ask edge [.stepInstruction]) ∧ step (ask edge [.stepInstruction]) = .next t :=
  ⟨_, witness_inv _ rfl rfl rfl rfl, rfl⟩

theorem witness_AdvanceNeverWraps : Inv edge ∧ edge.fetch = some 0x0000 := ⟨witness_inv edge rfl rfl rfl rfl, by decide⟩

theorem witness_CleanRunKeepsInvariant : ∃ t, Inv (ask edge [.tickTimer]) ∧ CleanRun 1 (ask edge [.tickTimer]) t :=
  ⟨_, witness_inv _ rfl rfl rfl rfl, _, ⟨rfl, rfl⟩, rfl⟩

theorem witness_ConfigurationNeverChanges : ∃ t, step (ask (rig false []) [.stepInstruction]) = .next t := ⟨_, rfl⟩

/-- A register that is no destination: VF under an instruction that writes no flag, and another under one that does. -/
theorem witness_OnlyFlagWritersTouchFlag :
    ∃ t u, exec (.setRegisterWithValue 1 5) (rig false []) = .next t ∧ vf ∉ destinations (.setRegisterWithValue 1 5)
      ∧ writesFlag (.setRegisterWithValue 1 5) = false
      ∧ exec (.addVxWithVy 1 2) (rig false []) = .next u ∧ (2#4 : Reg) ∉ destinations (.addVxWithVy 1 2) ∧ (2#4 : Reg) ≠ vf :=
  ⟨_, _, rfl, by decide, by decide, rfl, by decide, by decide⟩

/-- An instruction that meets the hypotheses of every clause. -/
theorem witness_StateElementWriters :
    ∃ t, exec (.setRegisterWithValue 1 5) (rig false []) = .next t
      ∧ (∀ nnn, Instr.setRegisterWithValue 1 5 ≠ .subroutineCall nnn) ∧ Instr.setRegisterWithValue 1 5 ≠ .subroutineReturn
      ∧ (∀ nnn, Instr.setRegisterWithValue 1 5 ≠ .setIndex nnn)
      ∧ (∀ x, Instr.setRegisterWithValue 1 5 ≠ .addToIndex x ∧ Instr.setRegisterWithValue 1 5 ≠ .setIndexToCharacter x
        ∧ Instr.setRegisterWithValue 1 5 ≠ .storeRegisters x ∧ Instr.setRegisterWithValue 1 5 ≠ .loadRegisters x
        ∧ Instr.setRegisterWithValue 1 5 ≠ .setDelayTimer x ∧ Instr.setRegisterWithValue 1 5 ≠ .setSoundTimer x
        ∧ Instr.setRegisterWithValue 1 5 ≠ .storeBcd x ∧ Instr.setRegisterWithValue 1 5 ≠ .waitForKey x)
      ∧ Instr.setRegisterWithValue 1 5 ≠ .displayClear ∧ ∀ x y n, Instr.setRegisterWithValue 1 5 ≠ .displayDraw x y n :=
  ⟨_, rfl, by simp⟩

theorem witness_OnlyFourFamiliesReadToggles : readsToggles (.storeBcd 0xF) = false := by decide

theorem witness_TimersDoNotGateStepping :
    (∀ x, Instr.setDelayTimer 1 ≠ .getDelayTimer x)
    ∧ ∀ op x, (rig false []).fetch = some op → decode op ≠ .ok (.getDelayTimer x) := by
  refine ⟨by simp, fun op x h => ?_⟩
  have hw : (rig false []).fetch = some 0x0000 := by decide
  rw [hw] at h
  cases h
  have hd : decode 0x0000 = .ok (.system 0x000) := by decide
  rw [hd]
  simp

end Sys2Proof.Tests
end

