-- ==== Sys2Proof/Proofs/Scope.lean ====
section
/-! PROOFS. The scope (spec 00): which operation a step takes, the state it begins in, and the instruction clock's step. -/

namespace Sys2Proof.Machine

variable {s : State}

/-- Taking a listed operation leaves the count of arrivals as it is (log entry 4). -/
theorem beginOperation_of_request {op : Operation} {rest : List Operation} (h : s.requests = op :: rest) :
    beginOperation s = (s.setRequests rest).setResult .ok := by
  rw [beginOperation, nextArrivals_of_request h, h]; rfl

theorem nextOperation_of_empty (h : s.requests = []) : nextOperation s = Config.arrival s.arrivals := by
  rw [nextOperation, h]

/-- Where nothing is listed the list stays as it is, since its tail is itself (log entry 4). -/
theorem beginOperation_of_empty (h : s.requests = []) :
    beginOperation s = (s.setArrivals (s.arrivals + 1)).setResult .ok := by
  have htail : s.setRequests s.requests.tail = s := by rw [h, List.tail_nil, ← h]; rfl
  rw [beginOperation, htail, nextArrivals_of_empty h]

/-- The instruction clock's step on a word that decodes: beginning the operation leaves xs, pc and memory alone, so what it fetches
is what stands at pc before the step (40 R110 to R115). -/
theorem step_run {i : Instr} (hop : nextOperation s = .stepInstruction) (hx : s.xs = .ready) (hp : s.pc.toNat ≤ 0xFFE)
    (hd : decode (s.readWord s.pc.toNat) = .ok i) : step s = exec i ((beginOperation s).setPc (s.pc + 2#16)) :=
  calc step s = stepInstruction (beginOperation s) := step_of_next hop
    _ = exec i ((beginOperation s).setPc (s.pc + 2#16)) := stepInstruction_run (s := beginOperation s) hx hp hd

/-- Settles O7: the operation taken by cases on the request list, the instruction step by `step_run`. -/
theorem stepRunsDecodedInstruction : Obligations.StepRunsDecodedInstruction := fun _ =>
  ⟨rfl,
    fun _ _ h => ⟨nextOperation_of_request h, beginOperation_of_request h⟩,
    fun h => ⟨nextOperation_of_empty h, beginOperation_of_empty h⟩,
    fun _ hop hx hp _ hd => step_run hop hx hp hd⟩

end Sys2Proof.Machine
end

/-! PROOFS. The state (spec 10): the kinds of change an instruction can make, what each state element is written by, the reset
state and the advance of pc. -/

namespace Sys2Proof.Machine

/-! What an instruction does when it answers a next state. -/

/-- The changes an instruction can make to `s`, by kind, each with the guard it was made under. The kinds `report`, `skip`, `result`
and `resultFlag` are shared by several instructions, told by `MayReport`, `destinations` and `writesFlag`; every other kind is one
instruction's own, with the values it writes (41 to 46; 60 R270). -/
inductive ExecEffect (s : State) : Instr → State → Prop
  | report {i e} (h : MayReport i s e) : ExecEffect s i (s.setResult (.error e))
  | skip (i : Instr) (c : Bool) (h : destinations i = []) : ExecEffect s i (s.setPc (if c then s.pc + 2#16 else s.pc))
  | jump (nnn) : ExecEffect s (.jump nnn) (s.setPc (absoluteTarget nnn))
  | jumpWithOffset (x nnn) :
      ExecEffect s (.jumpWithOffset x nnn) (s.setPc (absoluteTarget nnn + (s.getV (jumpBase x s)).setWidth 16))
  | subroutineReturn {target rest} (h : s.stack = target :: rest) :
      ExecEffect s .subroutineReturn ((s.setStack rest).setPc target)
  | subroutineCall (nnn) (h : s.cfg.stackDepth ≠ some s.stack.length) :
      ExecEffect s (.subroutineCall nnn) ((s.setStack (s.pc :: s.stack)).setPc (absoluteTarget nnn))
  | result {i x} (h : destinations i = [x]) (v : Byte) : ExecEffect s i (s.setV x v)
  | resultFlag {i x} (h : destinations i = [x]) (hf : writesFlag i = true) (v : Byte) (b : Bool) :
      ExecEffect s i ((s.setV x v).setV vf (flagByte b))
  | random (x nn) : ExecEffect s (.random x nn) ((s.setV x (Config.draw8 s.draws &&& nn)).setDraws (s.draws + 1))
  | displayClear : ExecEffect s .displayClear (s.setFramebuffer clearedFramebuffer)
  | displayDraw (x y n) (h : spriteRows y n s = 0 ∨ s.index.toNat + spriteRows y n s ≤ 0x1000) :
      ExecEffect s (.displayDraw x y n)
        ((s.setFramebuffer (drawnCanvas x y n s).fb).setV vf (flagByte (drawnCanvas x y n s).collision))
  | setIndex (nnn) : ExecEffect s (.setIndex nnn) (s.setIndex (absoluteTarget nnn))
  | setIndexToCharacter (x) : ExecEffect s (.setIndexToCharacter x) (s.setIndex (glyphAddress (s.getV x)))
  | addToIndex (x) :
      ExecEffect s (.addToIndex x) ((s.setIndex (BitVec.ofNat 16 (indexSum x s))).setV vf
        (if indexOverflow s.cfg (indexSum x s) then 1#8 else s.getV vf))
  | storeBcd (x) (h : s.index.toNat + 3 ≤ 0x1000) :
      ExecEffect s (.storeBcd x) (s.setMemory (s.memory.writeBytes s.index.toNat (bcdDigits (s.getV x))))
  | storeRegisters (x) (h : s.index.toNat + (x.toNat + 1) ≤ 0x1000) :
      ExecEffect s (.storeRegisters x)
        ((s.setMemory (s.memory.writeBytes s.index.toNat (blockBytes x s))).setIndex (indexAfterBlock x s))
  | loadRegisters (x) (h : s.index.toNat + (x.toNat + 1) ≤ 0x1000) :
      ExecEffect s (.loadRegisters x) ((s.setAllV (blockLoaded x s)).setIndex (indexAfterBlock x s))
  | waitForKey (x) : ExecEffect s (.waitForKey x) (s.setXs (.waitingForKey x))
  | setDelayTimer (x) : ExecEffect s (.setDelayTimer x) (s.setDelay (s.getV x))
  | setSoundTimer (x) : ExecEffect s (.setSoundTimer x) (s.setSound (s.getV x))

variable {s t : State} {i : Instr}

/-- Storing at I at least one byte, when it answers a next state: the bytes were in memory. -/
theorem storeAtIndex_next {bytes : List Byte} {after : State → State} (h0 : bytes ≠ [])
    (h : storeAtIndex bytes s after = .next t) :
    s.index.toNat + bytes.length ≤ 0x1000 ∧ t = after (s.setMemory (s.memory.writeBytes s.index.toNat bytes)) := by
  obtain ⟨hrange, hnext⟩ := guardAccess_next h
  exact ⟨hrange.resolve_left (mt List.length_eq_zero_iff.mp h0), (Host.Outcome.next.inj hnext).symm⟩

/-- The two key skips report the invalid key number or skip by some condition (46 R240, R241). -/
theorem keySkip_effect {x : Reg} {c : Bool} (hi : i = .skipIfKeyPressed x ∨ i = .skipIfKeyNotPressed x)
    (h : (if keyValid (s.getV x) then skipIf c s else raise (.invalidKey (s.getV x)) s) = .next t) : ExecEffect s i t := by
  split at h
  · cases h
    exact .skip i c (by rcases hi with rfl | rfl <;> rfl)
  · cases h
    exact .report (.inr (.inr (.inr ⟨x, hi, rfl⟩)))

/-- Everything an instruction can do when it answers a next state. -/
theorem exec_effect (h : exec i s = .next t) : ExecEffect s i t := by
  cases i with
  | displayClear => cases h; exact .displayClear
  | subroutineReturn =>
    rw [exec, execSubroutineReturn] at h
    split at h
    · cases h; exact .report (.inr (.inl ⟨rfl, rfl⟩))
    · next hs => cases h; exact .subroutineReturn hs
  | system nnn => cases h; exact .report (.inl ⟨nnn, rfl, rfl⟩)
  | jump nnn => cases h; exact .jump nnn
  | subroutineCall nnn =>
    rw [exec, execSubroutineCall] at h
    split at h
    · cases h; exact .report (.inr (.inr (.inl ⟨⟨nnn, rfl⟩, rfl⟩)))
    · next hd => cases h; exact .subroutineCall nnn hd
  | skipIfVxEqualsValue | skipIfVxNotEqualsValue | skipIfVxEqualsVy | skipIfVxNotEqualsVy =>
    cases h; exact .skip _ _ rfl
  | jumpWithOffset x nnn => cases h; exact .jumpWithOffset x nnn
  | setRegisterWithValue | addValueToRegister | setVxWithVy | orVxWithVy | andVxWithVy | xorVxWithVy | getDelayTimer =>
    cases h; exact .result rfl _
  | addVxWithVy | subtractVxWithVy | shift1RightVxWithVy | subtractVyWithVx | shift1LeftVxWithVy =>
    cases h; exact .resultFlag rfl rfl _ _
  | random x nn => cases h; exact .random x nn
  | displayDraw x y n =>
    obtain ⟨hrange, hnext⟩ := guardAccess_next h
    cases hnext
    exact .displayDraw x y n hrange
  | setIndex nnn => cases h; exact .setIndex nnn
  | setIndexToCharacter x => cases h; exact .setIndexToCharacter x
  | addToIndex x => cases h; exact .addToIndex x
  | storeBcd x =>
    rw [exec, execStoreBcd] at h
    obtain ⟨hrange, rfl⟩ := storeAtIndex_next (List.cons_ne_nil _ _) h
    exact .storeBcd x hrange
  | storeRegisters x =>
    rw [exec, execStoreRegisters] at h
    obtain ⟨hrange, rfl⟩ := storeAtIndex_next (List.ne_nil_of_length_eq_add_one (blockBytes_length x s)) h
    exact .storeRegisters x (by rwa [blockBytes_length] at hrange)
  | loadRegisters x =>
    obtain ⟨hrange, hnext⟩ := guardAccess_next h
    cases hnext
    exact .loadRegisters x (hrange.resolve_left (Nat.succ_ne_zero _))
  | skipIfKeyPressed x => exact keySkip_effect (.inl rfl) h
  | skipIfKeyNotPressed x => exact keySkip_effect (.inr rfl) h
  | waitForKey x => cases h; exact .waitForKey x
  | setDelayTimer x => cases h; exact .setDelayTimer x
  | setSoundTimer x => cases h; exact .setSoundTimer x

/-! The configuration (10 R31). -/

theorem ExecEffect.cfg_eq (h : ExecEffect s i t) : t.cfg = s.cfg := by
  cases h <;> rfl

theorem stepInstruction_cfg (h : stepInstruction s = .next t) : t.cfg = s.cfg := by
  rcases stepInstruction_next h with ⟨_, _, rfl⟩ | ⟨_, _, ⟨_, rfl⟩ | ⟨_, hexec⟩⟩
  · rfl
  · rfl
  · exact (exec_effect hexec).cfg_eq

@[simp] theorem resolveWait_cfg (k : Byte) (s : State) : (resolveWait k s).cfg = s.cfg := by
  unfold resolveWait
  split <;> rfl

theorem perform_cfg {op : Operation} (h : perform op s = .next t) : t.cfg = s.cfg := by
  rcases perform_next h with ⟨_, hstep⟩ | ⟨_, rfl⟩ | ⟨_, _, _, rfl⟩ | ⟨k, _, _, rfl⟩ | ⟨_, _, _, rfl⟩ | ⟨_, rfl⟩ | ⟨_, rfl⟩
  · exact stepInstruction_cfg hstep
  · rfl
  · rfl
  · exact resolveWait_cfg k _
  · rfl
  · rfl
  · rfl

/-- Settles O54: beginning an operation keeps the configuration, and so does performing it. -/
theorem configurationNeverChanges : Obligations.ConfigurationNeverChanges := fun s _ h =>
  (perform_cfg (s := beginOperation s) h).trans beginOperation_cfg

/-! The registers (10 R20, R21). -/

theorem getV_setV_of_ne (s : State) {x r : Reg} (h : r ≠ x) (v : Byte) : (s.setV x v).getV r = s.getV r := by
  rw [State.setV_getV, if_neg h]

theorem mem_regsUpTo {x r : Reg} : r ∈ regsUpTo x ↔ r.toNat ≤ x.toNat := by
  simp only [regsUpTo, List.mem_map, List.mem_range]
  constructor
  · rintro ⟨k, hk, rfl⟩
    have hx := x.isLt
    rw [BitVec.toNat_ofNat]
    omega
  · intro h
    exact ⟨r.toNat, by omega, by simp⟩

/-- A register that is no destination keeps its value, VF excepted under the flag writers. -/
theorem ExecEffect.getV_eq (h : ExecEffect s i t) {r : Reg} (hr : r ∉ destinations i) (hf : writesFlag i = false ∨ r ≠ vf) :
    t.getV r = s.getV r := by
  have notDest {x : Reg} (hx : destinations i = [x]) : r ≠ x := List.ne_of_not_mem_cons (hx ▸ hr)
  have notFlag (hw : writesFlag i = true) : r ≠ vf := hf.resolve_left (by simp [hw])
  cases h with
  | result hx => exact getV_setV_of_ne s (notDest hx) _
  | resultFlag hx hw => exact (getV_setV_of_ne _ (notFlag hw) _).trans (getV_setV_of_ne s (notDest hx) _)
  | random => exact getV_setV_of_ne s (notDest rfl) _
  | displayDraw | addToIndex => exact getV_setV_of_ne _ (notFlag rfl) _
  | loadRegisters x =>
    have hlt : ¬ r.toNat ≤ x.toNat := mt mem_regsUpTo.mpr hr
    simp [blockLoaded_get, hlt]
  | _ => rfl

/-- Settles O55: by the kinds of change an instruction can make. -/
theorem onlyFlagWritersTouchFlag : Obligations.OnlyFlagWritersTouchFlag :=
  fun _ _ _ h _ hr hf => (exec_effect h).getV_eq hr hf

/-! The other state elements (10 R23 to R30; 20 R55). -/

theorem ExecEffect.stack_eq (h : ExecEffect s i t) (hcall : ∀ nnn, i ≠ .subroutineCall nnn) (hret : i ≠ .subroutineReturn) :
    t.stack = s.stack := by
  cases h with
  | subroutineCall nnn => exact absurd rfl (hcall nnn)
  | subroutineReturn => exact absurd rfl hret
  | _ => rfl

theorem ExecEffect.index_eq (h : ExecEffect s i t) (hset : ∀ nnn, i ≠ .setIndex nnn)
    (hx : ∀ x, i ≠ .addToIndex x ∧ i ≠ .setIndexToCharacter x ∧ i ≠ .storeRegisters x ∧ i ≠ .loadRegisters x) :
    t.index = s.index := by
  cases h with
  | setIndex nnn => exact absurd rfl (hset nnn)
  | addToIndex x | setIndexToCharacter x | storeRegisters x | loadRegisters x => simp at hx
  | _ => rfl

theorem ExecEffect.delayTimer_eq (h : ExecEffect s i t) (hx : ∀ x, i ≠ .setDelayTimer x) : t.delayTimer = s.delayTimer := by
  cases h with
  | setDelayTimer x => exact absurd rfl (hx x)
  | _ => rfl

theorem ExecEffect.soundTimer_eq (h : ExecEffect s i t) (hx : ∀ x, i ≠ .setSoundTimer x) : t.soundTimer = s.soundTimer := by
  cases h with
  | setSoundTimer x => exact absurd rfl (hx x)
  | _ => rfl

theorem ExecEffect.memory_eq (h : ExecEffect s i t) (hx : ∀ x, i ≠ .storeBcd x ∧ i ≠ .storeRegisters x) :
    t.memory = s.memory := by
  cases h with
  | storeBcd x => exact absurd rfl (hx x).1
  | storeRegisters x => exact absurd rfl (hx x).2
  | _ => rfl

theorem ExecEffect.framebuffer_eq (h : ExecEffect s i t) (hclear : i ≠ .displayClear)
    (hdraw : ∀ x y n, i ≠ .displayDraw x y n) : t.framebuffer = s.framebuffer := by
  cases h with
  | displayClear => exact absurd rfl hclear
  | displayDraw x y n => exact absurd rfl (hdraw x y n)
  | _ => rfl

theorem ExecEffect.xs_eq (h : ExecEffect s i t) (hx : ∀ x, i ≠ .waitForKey x) : t.xs = s.xs := by
  cases h with
  | waitForKey x => exact absurd rfl (hx x)
  | _ => rfl

theorem ExecEffect.keys_eq (h : ExecEffect s i t) : t.keys = s.keys := by
  cases h <;> rfl

/-- Settles O56: one lemma for each state element. -/
theorem stateElementWriters : Obligations.StateElementWriters := fun _ _ _ h =>
  have e := exec_effect h
  ⟨e.stack_eq, e.index_eq, e.delayTimer_eq, e.soundTimer_eq, e.memory_eq, e.framebuffer_eq, e.xs_eq, e.keys_eq⟩

/-! The reset state, the advance of pc and the result (10 R22, R32, R33). -/

/-- Settles O51: the stack is empty and its depth unbounded, so both clauses about it hold of nothing. -/
theorem resetMeetsInvariant : Obligations.ResetMeetsInvariant where
  memory := Memory.wf_reset
  pc := by decide
  returns _ ha := absurd ha List.not_mem_nil
  depth _ hd := nomatch hd

/-- A fetch succeeds only where both bytes lie in memory (40 R112). -/
theorem pc_le_of_fetch {op : Word} (h : s.fetch = some op) : s.pc.toNat ≤ 0xFFE := by
  rw [fetch_eq] at h
  by_contra hp
  rw [if_neg hp] at h
  cases h

theorem advancePc_toNat (h : s.pc.toNat ≤ 0xFFE) : s.advancePc.pc.toNat = s.pc.toNat + 2 := by
  rw [State.advancePc_eq, State.setPc_pc, BitVec.toNat_add]
  simp only [BitVec.toNat_ofNat]
  omega

/-- Settles O53: the fetch bounds pc by 0xFFE, so the invariant is not needed for it. -/
theorem advanceNeverWraps : Obligations.AdvanceNeverWraps := by
  intro s op _ hfetch
  have hp := pc_le_of_fetch hfetch
  have hadv := advancePc_toNat hp
  exact ⟨hadv, by omega⟩

@[simp] theorem nextOperation_setResult (r : OpResult) : nextOperation (s.setResult r) = nextOperation s := rfl

@[simp] theorem beginOperation_setResult (r : OpResult) : beginOperation (s.setResult r) = beginOperation s := rfl

/-- Settles O58: which operation comes next does not depend on the result, and beginning an operation overwrites it. -/
theorem resultIsNeverRead : Obligations.ResultIsNeverRead := by
  intro s r
  rw [step, nextOperation_setResult, beginOperation_setResult, step]

end Sys2Proof.Machine

/-! PROOFS. Memory (spec 20): every step keeps the invariant, and the word FX55 stored is what the next fetch reads. -/

namespace Sys2Proof.Machine

variable {s t : State} {i : Instr}

/-! The invariant, kept by each update of memory, pc or the stack (20 R50; 10 R22, R24). -/

/-- The invariant speaks of four fields only. -/
theorem Inv.congr (h : Inv s) (hmemory : t.memory = s.memory) (hpc : t.pc = s.pc) (hstack : t.stack = s.stack)
    (hcfg : t.cfg = s.cfg) : Inv t where
  memory := hmemory ▸ h.memory
  pc := hpc ▸ h.pc
  returns := hstack ▸ h.returns
  depth := by rw [hstack, hcfg]; exact h.depth

theorem Inv.setPc (h : Inv s) {target : Word} (ht : target.toNat ≤ 0x10FE) : Inv (s.setPc target) where
  memory := h.memory
  pc := ht
  returns := h.returns
  depth := h.depth

theorem Inv.writeBytes (h : Inv s) {a : Nat} {bytes : List Byte} (ha : a + bytes.length ≤ memSize) :
    Inv (s.setMemory (s.memory.writeBytes a bytes)) where
  memory := Memory.wf_writeBytes h.memory ha
  pc := h.pc
  returns := h.returns
  depth := h.depth

theorem Inv.pop (h : Inv s) {target : Word} {rest : List Word} (hs : s.stack = target :: rest) : Inv (s.setStack rest) where
  memory := h.memory
  pc := h.pc
  returns a ha := h.returns a (hs ▸ List.mem_cons_of_mem target ha)
  depth d hd := by
    have hlen := h.depth d hd
    rw [hs] at hlen
    exact Nat.le_of_succ_le hlen

/-- A stack that is not full has room for one more value (41 R133). -/
theorem Inv.push (h : Inv s) {target : Word} (ht : target.toNat ≤ 0x1000) (hroom : s.cfg.stackDepth ≠ some s.stack.length) :
    Inv (s.setStack (target :: s.stack)) where
  memory := h.memory
  pc := h.pc
  returns := List.forall_mem_cons.mpr ⟨ht, h.returns⟩
  depth d hd :=
    have hne : s.stack.length ≠ d := fun e => hroom (e ▸ hd)
    Nat.lt_of_le_of_ne (h.depth d hd) hne

/-- The reset state meets the invariant under every configuration, since its stack is empty (70 R300). -/
theorem inv_resetState (s : State) : Inv (resetState s) where
  memory := Memory.wf_reset
  pc := resetMeetsInvariant.pc
  returns := resetMeetsInvariant.returns
  depth d _ := Nat.zero_le d

/-! How far each change of pc reaches (10 R22). -/

theorem absoluteTarget_le (nnn : Addr12) : (absoluteTarget nnn).toNat ≤ 0xFFF := by
  have hlt := nnn.isLt
  rw [absoluteTarget, BitVec.toNat_setWidth]
  omega

theorem offsetTarget_le (nnn : Addr12) (v : Byte) : (absoluteTarget nnn + v.setWidth 16).toNat ≤ 0x10FE := by
  have hbase := absoluteTarget_le nnn
  have hv := v.isLt
  rw [BitVec.toNat_add, BitVec.toNat_setWidth]
  omega

theorem skipTarget_le {pc : Word} (h : pc.toNat ≤ 0x1000) (c : Bool) : (if c then pc + 2#16 else pc).toNat ≤ 0x1002 := by
  cases c with
  | false => exact h.trans (by decide)
  | true =>
    rw [if_pos rfl, BitVec.toNat_add, BitVec.toNat_ofNat]
    omega

/-! The invariant along instructions, operations and steps. -/

/-- An instruction starts with pc already advanced, so at most at 0x1000 (40 R113): the bound on the address a call pushes. -/
theorem ExecEffect.inv (e : ExecEffect s i t) (h : Inv s) (hpc : s.pc.toNat ≤ 0x1000) : Inv t := by
  have hcfg := e.cfg_eq
  cases e with
  | skip _ c => exact h.setPc ((skipTarget_le hpc c).trans (by decide))
  | jump nnn => exact h.setPc ((absoluteTarget_le nnn).trans (by decide))
  | jumpWithOffset x nnn => exact h.setPc (offsetTarget_le nnn _)
  | subroutineReturn hs => exact (h.pop hs).setPc ((h.returns _ (hs ▸ List.mem_cons_self)).trans (by decide))
  | subroutineCall nnn hroom => exact (h.push hpc hroom).setPc ((absoluteTarget_le nnn).trans (by decide))
  | storeBcd x hrange =>
    have hbytes : s.index.toNat + (bcdDigits (s.getV x)).length ≤ memSize := by rwa [bcdDigits_length]
    exact h.writeBytes hbytes
  | storeRegisters x hrange =>
    have hbytes : s.index.toNat + (blockBytes x s).length ≤ memSize := by rwa [blockBytes_length]
    exact (h.writeBytes hbytes).congr rfl rfl rfl rfl
  | _ => exact h.congr (by simp) (by simp) (by simp) hcfg

theorem Inv.of_stepInstruction (h : Inv s) (hstep : stepInstruction s = .next t) : Inv t := by
  rcases stepInstruction_next hstep with ⟨_, _, rfl⟩ | ⟨_, hp, hrun⟩
  · exact h
  · have hadv : (s.pc + 2#16).toNat ≤ 0x1000 := (advancePc_toNat hp).trans_le (by omega)
    have hinv : Inv (s.setPc (s.pc + 2#16)) := h.setPc (hadv.trans (by decide))
    rcases hrun with ⟨_, rfl⟩ | ⟨_, hexec⟩
    · exact hinv.congr rfl rfl rfl rfl
    · exact (exec_effect hexec).inv hinv hadv

theorem Inv.of_resolveWait (h : Inv s) (k : Byte) : Inv (resolveWait k s) := by
  unfold resolveWait
  split
  · exact h
  · exact h.congr rfl rfl rfl rfl

theorem Inv.of_perform {op : Operation} (h : Inv s) (hop : perform op s = .next t) : Inv t := by
  rcases perform_next hop with ⟨_, hstep⟩ | ⟨_, rfl⟩ | ⟨_, _, _, rfl⟩ | ⟨k, _, _, rfl⟩ | ⟨_, _, hlen, rfl⟩ | ⟨_, rfl⟩ | ⟨_, rfl⟩
  · exact h.of_stepInstruction hstep
  · exact h.congr rfl rfl rfl rfl
  · exact h.congr rfl rfl rfl rfl
  · exact (h.congr (t := s.setKey (keyOf k) false) rfl rfl rfl rfl).of_resolveWait k
  · exact (inv_resetState s).writeBytes (Nat.add_le_add_left hlen programBase)
  · exact inv_resetState s
  · exact h.congr rfl rfl rfl rfl

/-- Settles O50: beginning an operation touches nothing the invariant speaks of, and performing it keeps the invariant. -/
theorem stepKeepsInvariant : Obligations.StepKeepsInvariant := fun s _ h hstep =>
  (h.congr (t := beginOperation s) rfl rfl rfl rfl).of_perform hstep

/-! What FX55 leaves in memory (43 R184), and the fetch after it (20 R63). -/

theorem blockBytes_getD {x r : Reg} (h : r.toNat ≤ x.toNat) (s : State) : (blockBytes x s).getD r.toNat 0#8 = s.getV r := by
  have hlt : r.toNat < blockLength x := Nat.lt_succ_of_le h
  simp [blockBytes, hlt]

/-- FX55, when it answers a next state: the block was in memory. -/
theorem storeRegisters_next {x : Reg} (h : exec (.storeRegisters x) s = .next t) :
    s.index.toNat + (x.toNat + 1) ≤ 0x1000
      ∧ t = (s.setMemory (s.memory.writeBytes s.index.toNat (blockBytes x s))).setIndex (indexAfterBlock x s) := by
  rw [exec, execStoreRegisters] at h
  have hlen := blockBytes_length x s
  obtain ⟨hrange, ht⟩ := storeAtIndex_next (List.ne_nil_of_length_eq_add_one hlen) h
  exact ⟨hlen ▸ hrange, ht⟩

theorem storeRegisters_readByte {x r : Reg} (h : exec (.storeRegisters x) s = .next t) (hr : r.toNat ≤ x.toNat) :
    t.readByte (s.index.toNat + r.toNat) = s.getV r := by
  obtain ⟨_, rfl⟩ := storeRegisters_next h
  rw [State.setIndex_readByte, State.setMemory_readByte, Memory.read_writeBytes, blockBytes_length, if_pos (by omega),
    Nat.add_sub_cancel_left, blockBytes_getD hr]

/-- Settles O41: both bytes of the word lie in the stored block, so the fetch is in range and reads V[0], then V[1]. -/
theorem storedWordIsFetched : Obligations.StoredWordIsFetched := by
  intro x s t hx h
  obtain ⟨hrange, -⟩ := storeRegisters_next h
  have hfirst : t.readByte s.index.toNat = s.getV 0#4 := storeRegisters_readByte (r := 0#4) h (Nat.zero_le _)
  have hsecond : t.readByte (s.index.toNat + 1) = s.getV 1#4 := storeRegisters_readByte (r := 1#4) h hx
  have hfetch : s.index.toNat ≤ 0xFFE := by omega
  rw [fetch_eq, State.setPc_pc, if_pos hfetch, State.readWord, State.setPc_readByte, State.setPc_readByte, hfirst, hsecond,
    assembleWord]

end Sys2Proof.Machine

/-! PROOFS. The encoding (spec 30): each instruction's word decodes to it; what the decoder answers for each word; the unknown words. -/

namespace Sys2Proof

/-! The decoder on the word of an instruction (30 R82, R84, R85). -/

theorem decode_nibbles {i : Nibble} (hi : i ≠ 0x0#4) (x y n : Nibble) :
    decode (i ++ x ++ y ++ n) = decodeByMajor (i ++ x ++ y ++ n) ⟨i, x, y, n, y ++ n, x ++ y ++ n⟩ := by
  rw [decode_of_major (by simpa using hi), splitOpcode_nibbles]

theorem decode_xnn {i : Nibble} (hi : i ≠ 0x0#4) (x : Reg) (nn : Byte) :
    decode (i ++ x ++ nn) =
      decodeByMajor (i ++ x ++ nn) ⟨i, x, nn.extractLsb' 4 4, nn.extractLsb' 0 4, nn, x ++ nn⟩ := by
  rw [decode_of_major (by simpa using hi), splitOpcode_xnn]

theorem decode_nnn {i : Nibble} (hi : i ≠ 0x0#4) (nnn : Addr12) :
    decode (i ++ nnn) = decodeByMajor (i ++ nnn)
      ⟨i, nnn.extractLsb' 8 4, nnn.extractLsb' 4 4, nnn.extractLsb' 0 4, nnn.extractLsb' 0 8, nnn⟩ := by
  rw [decode_of_major (by simpa using hi), splitOpcode_nnn]

/-- Settles O1: the System row by `decode_system_word`; every row with another major opcode is evaluated on the fields its format
puts together. -/
theorem decodeOfEncode : Obligations.DecodeOfEncode := by
  intro i hwf
  cases i with
  | displayClear | subroutineReturn => decide
  | system nnn =>
    simp only [Instr.wf, Bool.and_eq_true, bne_iff_ne] at hwf
    obtain ⟨hclear, hreturn⟩ := hwf
    exact decode_system_word hclear hreturn
  | jumpWithOffset x nnn =>
    obtain rfl : x = nnn.extractLsb' 8 4 := eq_of_beq hwf
    exact decode_nnn (by decide) _
  | jump | subroutineCall | setIndex => exact decode_nnn (by decide) _
  | skipIfVxEqualsValue | skipIfVxNotEqualsValue | setRegisterWithValue | addValueToRegister | random
  | skipIfKeyPressed | skipIfKeyNotPressed | getDelayTimer | waitForKey | setDelayTimer | setSoundTimer
  | addToIndex | setIndexToCharacter | storeBcd | storeRegisters | loadRegisters =>
    exact decode_xnn (by decide) _ _
  | skipIfVxEqualsVy | skipIfVxNotEqualsVy | displayDraw
  | setVxWithVy | orVxWithVy | andVxWithVy | xorVxWithVy | addVxWithVy
  | subtractVxWithVy | shift1RightVxWithVy | subtractVyWithVx | shift1LeftVxWithVy =>
    exact decode_nibbles (by decide) _ _ _

/-! What the decoder answers for a word (30 R84 to R87). -/

/-- The five classes of words that no row matches, by the fields (30 R86; the classes 5 and 9 are one clause). -/
def Fields.Unknown (f : Fields) : Prop :=
  ((f.i = 0x5#4 ∨ f.i = 0x9#4) ∧ f.n ≠ 0x0#4)
  ∨ (f.i = 0x8#4 ∧ f.n ∉ [0x0#4, 0x1#4, 0x2#4, 0x3#4, 0x4#4, 0x5#4, 0x6#4, 0x7#4, 0xE#4])
  ∨ (f.i = 0xE#4 ∧ f.nn ∉ [0x9E#8, 0xA1#8])
  ∨ (f.i = 0xF#4 ∧ f.nn ∉ [0x07#8, 0x0A#8, 0x15#8, 0x18#8, 0x1E#8, 0x29#8, 0x33#8, 0x55#8, 0x65#8])

/-- What decoding `op` can answer: a well-formed instruction whose word is `op`, or that `op` is unknown. -/
inductive DecodeAnswer (op : Word) : Except DecodeError Instr → Prop
  | row {i : Instr} (hwf : i.wf = true) (hword : encode i = op) : DecodeAnswer op (.ok i)
  | unknown (h : (splitOpcode op).Unknown) : DecodeAnswer op (.error (.unknownOpcode op))

variable {op : Word}

theorem DecodeAnswer.ite {c : Prop} [Decidable c] {a b : Except DecodeError Instr} (ha : c → DecodeAnswer op a)
    (hb : ¬ c → DecodeAnswer op b) : DecodeAnswer op (if c then a else b) := by
  split
  · exact ha ‹c›
  · exact hb ‹¬ c›

/-! A word from the fields its row reads, one lemma per format (30 R82). -/

theorem nibbles_eq_word {i n : Nibble} (hi : (splitOpcode op).i = i) (hn : (splitOpcode op).n = n) :
    i ++ (splitOpcode op).x ++ (splitOpcode op).y ++ n = op := by
  subst hi hn
  exact word_eq_nibbles op

theorem xnn_eq_word {i : Nibble} {nn : Byte} (hi : (splitOpcode op).i = i) (hnn : (splitOpcode op).nn = nn) :
    (i ++ (splitOpcode op).x ++ nn : Word) = op := by
  subst hi hnn
  exact word_eq_xnn op

theorem nnn_eq_word {i : Nibble} (hi : (splitOpcode op).i = i) : (i ++ (splitOpcode op).nnn : Word) = op := by
  subst hi
  exact word_eq_nnn op

/-- The address of a word with major opcode 0 that is no FIXED word (30 R87). -/
theorem system_wf (h1 : op ≠ 0x00E0#16) (h2 : op ≠ 0x00EE#16) (hi : (splitOpcode op).i = 0x0#4) :
    (Instr.system (splitOpcode op).nnn).wf = true := by
  have hword := nnn_eq_word hi
  simp only [Instr.wf, Bool.and_eq_true, bne_iff_ne]
  exact ⟨fun h => h1 (hword ▸ (fixed_iff _).1.mpr h), fun h => h2 (hword ▸ (fixed_iff _).2.mpr h)⟩

/-- The register the decoder hands over in BNNN is the top nibble of the address (30 R82). -/
theorem jumpWithOffset_wf (op : Word) : (Instr.jumpWithOffset (splitOpcode op).x (splitOpcode op).nnn).wf = true := by
  have hx : (splitOpcode op).x = (splitOpcode op).nnn.extractLsb' 8 4 := by
    conv_lhs => rw [← word_eq_nnn op, splitOpcode_nnn]
  exact beq_iff_eq.mpr hx

theorem decodeAlu_answer (hi : (splitOpcode op).i = 0x8#4) :
    DecodeAnswer op (decodeAlu op (splitOpcode op).x (splitOpcode op).y (splitOpcode op).n) := by
  unfold decodeAlu
  split_ifs
  case neg => exact .unknown (.inr (.inl ⟨hi, by simp [*]⟩))
  all_goals exact .row rfl (nibbles_eq_word hi ‹_›)

theorem decodeKeySkip_answer (hi : (splitOpcode op).i = 0xE#4) :
    DecodeAnswer op (decodeKeySkip op (splitOpcode op).x (splitOpcode op).nn) := by
  unfold decodeKeySkip
  split_ifs
  case neg => exact .unknown (.inr (.inr (.inl ⟨hi, by simp [*]⟩)))
  all_goals exact .row rfl (xnn_eq_word hi ‹_›)

theorem decodeMisc_answer (hi : (splitOpcode op).i = 0xF#4) :
    DecodeAnswer op (decodeMisc op (splitOpcode op).x (splitOpcode op).nn) := by
  unfold decodeMisc
  split_ifs
  case neg => exact .unknown (.inr (.inr (.inr ⟨hi, by simp [*]⟩)))
  all_goals exact .row rfl (xnn_eq_word hi ‹_›)

/-- Major opcode 0 is the only row whose well-formedness rests on the FIXED rows standing before it. -/
theorem decodeByMajor_answer (h1 : op ≠ 0x00E0#16) (h2 : op ≠ 0x00EE#16) :
    DecodeAnswer op (decodeByMajor op (splitOpcode op)) := by
  unfold decodeByMajor
  refine .ite (fun hi => .row (system_wf h1 h2 hi) (nnn_eq_word hi)) fun _ => ?_
  refine .ite (fun hi => .row rfl (nnn_eq_word hi)) fun _ => ?_
  refine .ite (fun hi => .row rfl (nnn_eq_word hi)) fun _ => ?_
  refine .ite (fun hi => .row rfl (xnn_eq_word hi rfl)) fun _ => ?_
  refine .ite (fun hi => .row rfl (xnn_eq_word hi rfl)) fun _ => ?_
  refine .ite (fun hi => .ite (.row rfl <| nibbles_eq_word hi ·) (.unknown <| .inl ⟨.inl hi, ·⟩)) fun _ => ?_
  refine .ite (fun hi => .row rfl (xnn_eq_word hi rfl)) fun _ => ?_
  refine .ite (fun hi => .row rfl (xnn_eq_word hi rfl)) fun _ => ?_
  refine .ite (fun hi => decodeAlu_answer hi) fun _ => ?_
  refine .ite (fun hi => .ite (.row rfl <| nibbles_eq_word hi ·) (.unknown <| .inl ⟨.inr hi, ·⟩)) fun _ => ?_
  refine .ite (fun hi => .row rfl (nnn_eq_word hi)) fun _ => ?_
  refine .ite (fun hi => .row (jumpWithOffset_wf op) (nnn_eq_word hi)) fun _ => ?_
  refine .ite (fun hi => .row rfl (xnn_eq_word hi rfl)) fun _ => ?_
  refine .ite (fun hi => .row rfl (nibbles_eq_word hi rfl)) fun _ => ?_
  refine .ite (fun hi => decodeKeySkip_answer hi) fun _ => ?_
  have hi : (splitOpcode op).i = 0xF#4 := by bv_omega
  exact decodeMisc_answer hi

theorem decode_answer (op : Word) : DecodeAnswer op (decode op) := by
  unfold decode
  split_ifs with h1 h2
  · exact .row rfl h1.symm
  · exact .row rfl h2.symm
  · exact decodeByMajor_answer h1 h2

/-- Settles O2: the answer of `decode_answer` that is an instruction. -/
theorem encodeOfDecode : Obligations.EncodeOfDecode := by
  intro op i h
  have hanswer := decode_answer op
  rw [h] at hanswer
  cases hanswer with
  | row hwf hword => exact ⟨hwf, hword⟩

/-! The rows of the opcode map (30 R84). -/

theorem encode_matches_row (i : Instr) : Laws.EncodedRow.Statement i := by
  cases i with
  | displayClear => exact Laws.EncodedRow.displayClear
  | subroutineReturn => exact Laws.EncodedRow.subroutineReturn
  | system nnn => exact Laws.EncodedRow.system nnn
  | jump nnn => exact Laws.EncodedRow.jump nnn
  | subroutineCall nnn => exact Laws.EncodedRow.subroutineCall nnn
  | skipIfVxEqualsValue x nn => exact Laws.EncodedRow.skipIfVxEqualsValue x nn
  | skipIfVxNotEqualsValue x nn => exact Laws.EncodedRow.skipIfVxNotEqualsValue x nn
  | skipIfVxEqualsVy x y => exact Laws.EncodedRow.skipIfVxEqualsVy x y
  | setRegisterWithValue x nn => exact Laws.EncodedRow.setRegisterWithValue x nn
  | addValueToRegister x nn => exact Laws.EncodedRow.addValueToRegister x nn
  | setVxWithVy x y => exact Laws.EncodedRow.setVxWithVy x y
  | orVxWithVy x y => exact Laws.EncodedRow.orVxWithVy x y
  | andVxWithVy x y => exact Laws.EncodedRow.andVxWithVy x y
  | xorVxWithVy x y => exact Laws.EncodedRow.xorVxWithVy x y
  | addVxWithVy x y => exact Laws.EncodedRow.addVxWithVy x y
  | subtractVxWithVy x y => exact Laws.EncodedRow.subtractVxWithVy x y
  | shift1RightVxWithVy x y => exact Laws.EncodedRow.shift1RightVxWithVy x y
  | subtractVyWithVx x y => exact Laws.EncodedRow.subtractVyWithVx x y
  | shift1LeftVxWithVy x y => exact Laws.EncodedRow.shift1LeftVxWithVy x y
  | skipIfVxNotEqualsVy x y => exact Laws.EncodedRow.skipIfVxNotEqualsVy x y
  | setIndex nnn => exact Laws.EncodedRow.setIndex nnn
  | jumpWithOffset x nnn => exact Laws.EncodedRow.jumpWithOffset x nnn
  | random x nn => exact Laws.EncodedRow.random x nn
  | displayDraw x y n => exact Laws.EncodedRow.displayDraw x y n
  | skipIfKeyPressed x => exact Laws.EncodedRow.skipIfKeyPressed x
  | skipIfKeyNotPressed x => exact Laws.EncodedRow.skipIfKeyNotPressed x
  | getDelayTimer x => exact Laws.EncodedRow.getDelayTimer x
  | waitForKey x => exact Laws.EncodedRow.waitForKey x
  | setDelayTimer x => exact Laws.EncodedRow.setDelayTimer x
  | setSoundTimer x => exact Laws.EncodedRow.setSoundTimer x
  | addToIndex x => exact Laws.EncodedRow.addToIndex x
  | setIndexToCharacter x => exact Laws.EncodedRow.setIndexToCharacter x
  | storeBcd x => exact Laws.EncodedRow.storeBcd x
  | storeRegisters x => exact Laws.EncodedRow.storeRegisters x
  | loadRegisters x => exact Laws.EncodedRow.loadRegisters x

/-- A word that matches the 0NNN row has major opcode 0 (30 R84). -/
theorem major_eq_zero_of_mask (h : op &&& 0xF000#16 = 0x0000#16) : (splitOpcode op).i = 0x0#4 := by
  have hmask : (splitOpcode (op &&& 0xF000#16)).i = (splitOpcode op).i := by
    simp only [splitOpcode, BitVec.extractLsb'_and]
    exact BitVec.and_allOnes
  rw [← hmask, h]
  decide

theorem splitOpcode_nnn_eq_setWidth (op : Word) : (splitOpcode op).nnn = op.setWidth 12 :=
  BitVec.eq_of_toNat_eq (by simp [splitOpcode])

theorem decode_system (h1 : op ≠ 0x00E0#16) (h2 : op ≠ 0x00EE#16) (hi : (splitOpcode op).i = 0x0#4) :
    decode op = .ok (.system (splitOpcode op).nnn) := by
  rw [decode, if_neg h1, if_neg h2, decodeByMajor, if_pos hi]

/-- Settles O3: a decoded word is its instruction's encoding (O2), which matches the row; the FIXED words are evaluated, and every
other word with major opcode 0 is a System word. -/
theorem decodedWordMatchesRow : Obligations.DecodedWordMatchesRow := by
  refine ⟨fun op i h => ?_, by decide, by decide, fun op hmask h1 h2 => ?_⟩
  · obtain ⟨-, rfl⟩ := encodeOfDecode op i h
    exact encode_matches_row i
  · rw [decode_system h1 h2 (major_eq_zero_of_mask hmask), splitOpcode_nnn_eq_setWidth]

/-! The unknown words (30 R86). -/

theorem Fields.Unknown.major_ne_zero {f : Fields} (h : f.Unknown) : f.i ≠ 0x0#4 := by
  intro hi
  simp [Fields.Unknown, hi] at h

/-- A word of one of the five classes is refused: its major opcode selects the class, and its function code none of the rows. -/
theorem decode_of_unknown (h : (splitOpcode op).Unknown) : decode op = .error (.unknownOpcode op) := by
  rw [decode_of_major h.major_ne_zero]
  rcases h with ⟨hi | hi, hn⟩ | ⟨hi, hn⟩ | ⟨hi, hnn⟩ | ⟨hi, hnn⟩
  · simp [decodeByMajor, hi, hn]
  · simp [decodeByMajor, hi, hn]
  · simp_all [decodeByMajor, decodeAlu]
  · simp_all [decodeByMajor, decodeKeySkip]
  · simp_all [decodeByMajor, decodeMisc]

theorem decode_error_iff : decode op = .error (.unknownOpcode op) ↔ (splitOpcode op).Unknown := by
  refine ⟨fun h => ?_, decode_of_unknown⟩
  have hanswer := decode_answer op
  rw [h] at hanswer
  cases hanswer with
  | unknown hunknown => exact hunknown

theorem splitOpcode_i_toNat (op : Word) : (splitOpcode op).i.toNat = op.toNat / 4096 := by
  have hlt := op.isLt
  simp only [splitOpcode, BitVec.extractLsb'_toNat, Nat.shiftRight_eq_div_pow]
  omega

theorem splitOpcode_n_toNat (op : Word) : (splitOpcode op).n.toNat = op.toNat % 16 := by
  simp [splitOpcode]

theorem splitOpcode_nn_toNat (op : Word) : (splitOpcode op).nn.toNat = op.toNat % 256 := by
  simp [splitOpcode]

/-- Settles O4: the classes by fields, read as numbers. -/
theorem unknownWordClasses : Obligations.UnknownWordClasses := by
  intro op
  rw [decode_error_iff]
  simp [Fields.Unknown, BitVec.toNat_eq, splitOpcode_i_toNat, splitOpcode_n_toNat, splitOpcode_nn_toNat]

/-- Settles O5: each word is evaluated. -/
theorem sampleWordsDecode : Obligations.SampleWordsDecode := by
  unfold Obligations.SampleWordsDecode
  decide

end Sys2Proof

/-! PROOFS. The execution cycle (spec 40): the instruction step's three ways to go, good runs, and what no instruction reads: the
toggles outside their four families, and the timers. -/

namespace Sys2Proof.Machine

variable {s : State} {i : Instr}

/-! The instruction step (40 R110 to R115). -/

/-- The word two bytes make, as a number: the byte at the lower address counts 256-fold (20 R53). -/
theorem readWord_toNat (s : State) (a : Nat) :
    (s.readWord a).toNat = (s.readByte a).toNat * 256 + (s.readByte (a + 1)).toNat := by
  have hlow := (s.readByte (a + 1)).isLt
  rw [State.readWord, assembleWord, BitVec.toNat_append, Nat.shiftLeft_eq, mul_comm, ← Nat.two_pow_add_eq_or_of_lt hlow]

/-- Settles O6: the given word is the word at pc, and each way the sequencer goes has its lemma. -/
theorem stepInstructionSequence : Obligations.StepInstructionSequence := by
  refine fun s => ⟨fun _ => stepInstruction_waiting, stepInstruction_fault, fun hx hp op hop => ?_⟩
  obtain rfl : op = s.readWord s.pc.toNat := BitVec.eq_of_toNat_eq (hop.trans (readWord_toNat s _).symm)
  exact ⟨fun _ => stepInstruction_run hx hp, stepInstruction_unknown hx hp⟩

/-- Settles O9: beginning the operation leaves xs and pc alone, so the fault is that of the instruction step. -/
theorem fetchOutsideMemoryFaults : Obligations.FetchOutsideMemoryFaults := fun s hop hx hp =>
  (step_of_next hop).trans (stepInstruction_fault (s := beginOperation s) hx hp)

/-! Good runs (40 R120). -/

/-- Settles O52: by induction on the number of steps, each of which keeps the invariant (O50). -/
theorem cleanRunKeepsInvariant : Obligations.CleanRunKeepsInvariant := by
  intro n
  induction n with
  | zero => rintro s _ hinv rfl; exact hinv
  | succ n ih =>
    rintro s t hinv ⟨u, ⟨hstep, -⟩, hrun⟩
    exact ih u t (stepKeepsInvariant s u hinv hstep) hrun

/-! What an instruction does under another configuration and other timers (40 R118, R119; 10 R26). -/

/-- The configuration and the timers changed, each by its own function, and nothing else: the common form of `withToggles`,
`setDelay` and `setSound`. -/
def State.retune (c : Config → Config) (dt st : Byte → Byte) (s : State) : State :=
  { s with cfg := c s.cfg, delayTimer := dt s.delayTimer, soundTimer := st s.soundTimer }

/-- The configuration part of `withToggles`. -/
def setToggles (a b c d : Bool) (cfg : Config) : Config :=
  { cfg with shiftIgnoresVy := a, jumpReadsFromVx := b, addToIndexStoresOverflow := c, storeLoadModifiesI := d }

theorem mapState_mapState (f g : State → State) (ans : Answer) : mapState f (mapState g ans) = mapState (f ∘ g) ans := by
  rcases ans with _ | ⟨_, _⟩ | _ <;> rfl

/-- The range check looks at no state, and a stop carries the state it was given (20 R56). -/
theorem mapState_guardAccess (g : State → State) (a n : Nat) (s : State) (k : Answer) :
    mapState g (guardAccess a n s k) = guardAccess a n (g s) (mapState g k) := by
  unfold guardAccess
  split <;> rfl

/-- An instruction does the same under another configuration and other timers, provided what it reads or writes of them is left as
it is: the toggles for the four families, DT for FX07 and FX15, ST for FX18. `STACK_DEPTH`, which 2NNN reads, is left as it is
throughout. -/
theorem exec_retune {c : Config → Config} {dt st : Byte → Byte} (hdepth : ∀ cfg, (c cfg).stackDepth = cfg.stackDepth)
    (htoggles : readsToggles i = true → c = id) (hget : ∀ x, i = .getDelayTimer x → dt = id)
    (hset : ∀ x, i = .setDelayTimer x → dt = id) (hsound : ∀ x, i = .setSoundTimer x → st = id) (s : State) :
    exec i (s.retune c dt st) = mapState (State.retune c dt st) (exec i s) := by
  cases i with
  | shift1RightVxWithVy | shift1LeftVxWithVy | jumpWithOffset | addToIndex => obtain rfl := htoggles rfl; rfl
  | storeRegisters | loadRegisters => obtain rfl := htoggles rfl; exact Eq.symm (mapState_guardAccess _ _ _ s _)
  | displayDraw | storeBcd => exact Eq.symm (mapState_guardAccess _ _ _ s _)
  | getDelayTimer x => obtain rfl := hget x rfl; rfl
  | setDelayTimer x => obtain rfl := hset x rfl; rfl
  | setSoundTimer x => obtain rfl := hsound x rfl; rfl
  | subroutineReturn =>
    obtain ⟨_, _, _, stack⟩ := s
    cases stack <;> rfl
  | subroutineCall nnn =>
    simp only [exec, execSubroutineCall, State.retune, hdepth]
    split <;> rfl
  | skipIfKeyPressed x | skipIfKeyNotPressed x => exact Eq.symm (apply_ite (mapState _) (keyValid (s.getV x) = true) _ _)
  | _ => rfl

/-- Settles O57: the toggles changed and the timers left alone. -/
theorem onlyFourFamiliesReadToggles : Obligations.OnlyFourFamiliesReadToggles := by
  intro i s a b c d hi
  exact exec_retune (c := setToggles a b c d) (dt := id) (st := id) (hdepth := fun _ => rfl)
    (htoggles := fun h => absurd h (by simp [hi])) (hget := fun _ _ => rfl) (hset := fun _ _ => rfl) (hsound := fun _ _ => rfl) s

/-- DT reaches no other element but through FX07; FX15 overwrites it (45 R221, R222). -/
theorem exec_setDelay (hget : ∀ x, i ≠ .getDelayTimer x) (s : State) (d : Byte) :
    mapState (·.setDelay 0#8) (exec i (s.setDelay d)) = mapState (·.setDelay 0#8) (exec i s) := by
  by_cases hset : ∃ x, i = .setDelayTimer x
  · obtain ⟨x, rfl⟩ := hset
    rfl
  · have hcomm : exec i (s.setDelay d) = mapState (·.setDelay d) (exec i s) :=
      exec_retune (c := id) (dt := fun _ => d) (st := id) (hdepth := fun _ => rfl) (htoggles := fun _ => rfl)
        (hget := fun x h => absurd h (hget x)) (hset := fun x h => absurd ⟨x, h⟩ hset) (hsound := fun _ _ => rfl) s
    rw [hcomm, mapState_mapState]
    rfl

/-- ST reaches no other element; FX18 overwrites it (45 R223). -/
theorem exec_setSound (i : Instr) (s : State) (d : Byte) :
    mapState (·.setSound 0#8) (exec i (s.setSound d)) = mapState (·.setSound 0#8) (exec i s) := by
  by_cases hset : ∃ x, i = .setSoundTimer x
  · obtain ⟨x, rfl⟩ := hset
    rfl
  · have hcomm : exec i (s.setSound d) = mapState (·.setSound d) (exec i s) :=
      exec_retune (c := id) (dt := id) (st := fun _ => d) (hdepth := fun _ => rfl) (htoggles := fun _ => rfl)
        (hget := fun _ _ => rfl) (hset := fun _ _ => rfl) (hsound := fun x h => absurd ⟨x, h⟩ hset) s
    rw [hcomm, mapState_mapState]
    rfl

/-- The sequencer goes the same way whatever DT is, since it decides by xs, pc and memory (40 R118). -/
theorem stepInstruction_setDelay (hget : ∀ op x, s.fetch = some op → decode op ≠ .ok (.getDelayTimer x)) (d : Byte) :
    mapState (·.setDelay 0#8) (stepInstruction (s.setDelay d)) = mapState (·.setDelay 0#8) (stepInstruction s) := by
  cases hx : s.xs with
  | waitingForKey r => rw [stepInstruction_waiting hx, stepInstruction_waiting (s := s.setDelay d) hx]; rfl
  | ready =>
    by_cases hp : s.pc.toNat ≤ 0xFFE
    · cases hd : decode (s.readWord s.pc.toNat) with
      | error e =>
        obtain ⟨op⟩ := e
        rw [stepInstruction_unknown hx hp hd, stepInstruction_unknown (s := s.setDelay d) hx hp hd]
        rfl
      | ok i =>
        have hfetch : s.fetch = some (s.readWord s.pc.toNat) := by rw [fetch_eq, if_pos hp]
        have hi : ∀ x, i ≠ .getDelayTimer x := fun x h => hget _ x hfetch (h ▸ hd)
        rw [stepInstruction_run hx hp hd, stepInstruction_run (s := s.setDelay d) hx hp hd]
        exact exec_setDelay hi (s.setPc (s.pc + 2#16)) d
    · have hp := Nat.not_le.mp hp
      rw [stepInstruction_fault hx hp, stepInstruction_fault (s := s.setDelay d) hx hp]
      rfl

/-- Settles O59: DT through an instruction, DT through the whole step, and ST through an instruction. -/
theorem timersDoNotGateStepping : Obligations.TimersDoNotGateStepping :=
  ⟨fun _ s d hget => exec_setDelay hget s d, fun _ d hget => stepInstruction_setDelay hget d, exec_setSound⟩

end Sys2Proof.Machine

/-! PROOFS. Control flow (spec 41): frames of the changes that jumps, calls, returns and reports make, then each instruction. In every
meaning pc is already the instruction's address plus 2 (40 R113). -/

namespace Sys2Proof.Machine

/-! Frames: pc is outside every frame, the stack and the result are footprints of their own. -/

theorem Frame.setPc {f : Footprint} {s t : State} (h : Frame f s t) (target : Word) : Frame f s (t.setPc target) := { h with }

theorem frame_setPc (s : State) (target : Word) : Frame {} s (s.setPc target) := (Frame.refl {} s).setPc target

theorem frame_setStack (s : State) (st : List Word) : Frame { stack := true } s (s.setStack st) :=
  { Frame.refl { stack := true } s with stack := nofun }

theorem frame_setResult (s : State) (r : OpResult) : Frame { result := true } s (s.setResult r) :=
  { Frame.refl { result := true } s with result := nofun }

variable (s : State) (nnn : Addr12)

/-- Reporting an error changes the result and nothing else (60 R268). -/
theorem raise_reports (e : Error) :
    ∃ t, raise e s = .next t ∧ t.result = .error e ∧ t.pc = s.pc ∧ Frame { result := true } s t :=
  ⟨_, raise_eq e s, rfl, rfl, frame_setResult s _⟩

/-! The system call and the jumps (41 R130, R132, R138). -/

/-- Settles O19: 0NNN raises its error in every state. -/
theorem systemIsReported : Obligations.SystemIsReported := fun nnn s => raise_reports s (.unsupportedInstruction (.system nnn))

theorem absoluteTarget_toNat : (absoluteTarget nnn).toNat = nnn.toNat :=
  BitVec.toNat_setWidth_of_le (by decide)

/-- An address plus a byte stays below 2^16, so the sum of BNNN is the sum of the numbers (41 R138). -/
theorem offsetTarget_toNat (v : Byte) : (absoluteTarget nnn + v.setWidth 16).toNat = nnn.toNat + v.toNat := by
  have haddr := nnn.isLt
  have hbyte := v.isLt
  rw [BitVec.toNat_add, absoluteTarget_toNat, BitVec.toNat_setWidth_of_le (by decide), Nat.mod_eq_of_lt (by omega)]

/-- Settles O21: the widened address is the address, and only pc changes. -/
theorem jumpLoadsPc : Obligations.JumpLoadsPc := fun nnn =>
  ⟨decodeOfEncode (.jump nnn) rfl, fun s => ⟨_, rfl, absoluteTarget_toNat nnn, frame_setPc s _⟩⟩

/-- Settles O26: the base register is the one the toggle selects, and the sum is not reduced. -/
theorem jumpWithOffsetAddsBase : Obligations.JumpWithOffsetAddsBase := fun nnn =>
  ⟨decodeOfEncode (.jumpWithOffset (nnn.extractLsb' 8 4) nnn) (beq_self_eq_true _), fun x s =>
    ⟨_, rfl, offsetTarget_toNat nnn (s.getV (jumpBase x s)), offsetTarget_le nnn _, frame_setPc s _⟩⟩

/-! Return and call (41 R131, R133): each by whether the stack has what it needs. -/

variable {s}

theorem exec_subroutineReturn_of_cons {target : Word} {rest : List Word} (h : s.stack = target :: rest) :
    exec .subroutineReturn s = .next ((s.setStack rest).setPc target) := by
  rw [exec, execSubroutineReturn, h]

theorem exec_subroutineReturn_of_nil (h : s.stack = []) : exec .subroutineReturn s = raise .stackUnderflow s := by
  rw [exec, execSubroutineReturn, h]

theorem exec_subroutineCall_of_room (h : s.cfg.stackDepth ≠ some s.stack.length) :
    exec (.subroutineCall nnn) s = .next ((s.setStack (s.pc :: s.stack)).setPc (absoluteTarget nnn)) := if_neg h

theorem exec_subroutineCall_of_full (h : s.cfg.stackDepth = some s.stack.length) :
    exec (.subroutineCall nnn) s = raise .stackOverflow s := if_pos h

/-- Settles O20: by cases on the stack. -/
theorem returnPopsPc : Obligations.ReturnPopsPc := by
  refine ⟨decodeOfEncode .subroutineReturn rfl, fun s => ⟨fun target rest h => ?_, fun h => ?_⟩⟩
  · exact ⟨_, exec_subroutineReturn_of_cons h, rfl, rfl, (frame_setStack s rest).setPc target⟩
  · rw [exec_subroutineReturn_of_nil h]
    exact raise_reports s .stackUnderflow

/-- Settles O22: by whether the stack has room for one more value. -/
theorem callPushesPc : Obligations.CallPushesPc := by
  refine fun nnn => ⟨decodeOfEncode (.subroutineCall nnn) rfl, fun s => ⟨fun hroom => ?_, fun hfull => ?_⟩⟩
  · exact ⟨_, exec_subroutineCall_of_room nnn hroom, rfl, absoluteTarget_toNat nnn, (frame_setStack s _).setPc _⟩
  · rw [exec_subroutineCall_of_full nnn hfull]
    exact raise_reports s .stackOverflow

/-- Settles O23: the value the return pops is the one the call pushed. -/
theorem returnUndoesCall : Obligations.ReturnUndoesCall := fun nnn _ hroom =>
  ⟨_, exec_subroutineCall_of_room nnn hroom, _, exec_subroutineReturn_of_cons rfl, rfl, rfl⟩

/-! The skips (41 R134 to R137, R139): an immediate and a register are compared alike. -/

variable (s) (v w : Byte)

theorem skipIf_beq : ∃ t, skipIf (v == w) s = .next t ∧ t.pc = (if v = w then s.pc + 2#16 else s.pc) ∧ Frame {} s t :=
  ⟨_, skipIf_eq _ s, by simp, frame_setPc s _⟩

theorem skipIf_bne : ∃ t, skipIf (v != w) s = .next t ∧ t.pc = (if v = w then s.pc else s.pc + 2#16) ∧ Frame {} s t :=
  ⟨_, skipIf_eq _ s, by simp, frame_setPc s _⟩

/-- Settles O24: the skips by `skipIf_beq` and `skipIf_bne`, at V[x] and the immediate. -/
theorem immediateSkips : Obligations.ImmediateSkips := fun x nn =>
  ⟨decodeOfEncode (.skipIfVxEqualsValue x nn) rfl, decodeOfEncode (.skipIfVxNotEqualsValue x nn) rfl, fun s =>
    ⟨skipIf_beq s (s.getV x) nn, skipIf_bne s (s.getV x) nn⟩⟩

/-- Settles O25: the skips by `skipIf_beq` and `skipIf_bne`, at V[x] and V[y]. -/
theorem registerSkips : Obligations.RegisterSkips := fun x y =>
  ⟨decodeOfEncode (.skipIfVxEqualsVy x y) rfl, decodeOfEncode (.skipIfVxNotEqualsVy x y) rfl, fun s =>
    ⟨skipIf_beq s (s.getV x) (s.getV y), skipIf_bne s (s.getV x) (s.getV y)⟩⟩

end Sys2Proof.Machine

/-! PROOFS. Register file and ALU (spec 42): the two ways a result is written, with the flag last or without one; sums, differences,
shifts and flags as numbers; then each instruction. -/

namespace Sys2Proof.Machine

/-! Writing a result (40 R116; 42 R161). -/

section

variable (s : State) (x : Reg) (v : Byte)

theorem getV_setV_same : (s.setV x v).getV x = v := by
  rw [State.setV_getV, if_pos rfl]

theorem frame_setV : Frame { regs := [x] } s (s.setV x v) :=
  { Frame.refl { regs := [x] } s with regs := fun _ hr => getV_setV_of_ne s (List.ne_of_not_mem_cons hr) v }

theorem frame_setV_setV (q : Reg) (w : Byte) : Frame { regs := [x, q] } s ((s.setV x v).setV q w) :=
  { Frame.refl { regs := [x, q] } s with
    regs := fun r hr => by
      have hx : r ≠ x := List.ne_of_not_mem_cons hr
      have hq : r ≠ q := List.ne_of_not_mem_cons (List.not_mem_of_not_mem_cons hr)
      exact (getV_setV_of_ne _ hq w).trans (getV_setV_of_ne s hx v) }

/-- A result and its flag, each read as a number: the flag is written last, so VF holds it even where V[x] is VF (D4). -/
theorem writeVxFlag_writes {b : Bool} {result flag : Nat} (hv : v.toNat = result) (hb : (flagByte b).toNat = flag) :
    ∃ t, writeVxFlag x v b s = .next t ∧ (x ≠ vf → (t.getV x).toNat = result) ∧ (t.getV vf).toNat = flag
      ∧ t.pc = s.pc ∧ Frame { regs := [x, vf] } s t := by
  refine ⟨_, writeVxFlag_eq x v b s, fun hx => ?_, ?_, rfl, frame_setV_setV s x v vf _⟩
  · rw [getV_setV_of_ne _ hx, getV_setV_same, hv]
  · rw [getV_setV_same, hb]

end

/-! Results and flags as numbers (42 R156 to R161). -/

theorem sub_toNat (a b : Byte) : (a - b).toNat = (a.toNat + 256 - b.toNat) % 256 := by
  have hb := b.isLt
  rw [BitVec.toNat_sub]
  omega

theorem shiftRight_one_toNat (v : Byte) : (v >>> 1).toNat = v.toNat / 2 := by
  rw [BitVec.toNat_ushiftRight, Nat.shiftRight_one]

theorem shiftLeft_one_toNat (v : Byte) : (v <<< 1).toNat = 2 * v.toNat % 256 := by
  rw [BitVec.toNat_shiftLeft, Nat.shiftLeft_eq, mul_comm]

theorem flagByte_decide (p : Prop) [Decidable p] : (flagByte (decide p)).toNat = if p then 1 else 0 := by
  simp only [flagByte_toNat, decide_eq_true_eq]

theorem flagByte_getLsbD (v : Byte) (k : Nat) : (flagByte (v.getLsbD k)).toNat = v.toNat / 2 ^ k % 2 := by
  rw [flagByte_toNat, ← Nat.toNat_testBit, Bool.toNat, Bool.cond_eq_ite, BitVec.testBit_toNat]

theorem flagByte_rightBitOut (v : Byte) : (flagByte (rightBitOut v)).toNat = v.toNat % 2 := by
  rw [rightBitOut, flagByte_getLsbD, pow_zero, Nat.div_one]

/-- The top bit of a byte is all that its division by 128 leaves. -/
theorem flagByte_leftBitOut (v : Byte) : (flagByte (leftBitOut v)).toNat = v.toNat / 128 := by
  have hv := v.isLt
  rw [leftBitOut, flagByte_getLsbD]
  omega

/-! The instructions with a flag (42 R156 to R160). -/

/-- Settles O30: sum and carry by `writeVxFlag_writes`. -/
theorem addSetsCarry : Obligations.AddSetsCarry := fun x y =>
  ⟨decodeOfEncode (.addVxWithVy x y) rfl, fun s =>
    writeVxFlag_writes s x (s.getV x + s.getV y) (BitVec.toNat_add _ _) (flagByte_decide _)⟩

/-- Settles O31: difference and NOT borrow by `writeVxFlag_writes`. -/
theorem subtractSetsNoBorrow : Obligations.SubtractSetsNoBorrow := fun x y =>
  ⟨decodeOfEncode (.subtractVxWithVy x y) rfl, fun s =>
    writeVxFlag_writes s x (s.getV x - s.getV y) (sub_toNat _ _) (flagByte_decide _)⟩

/-- Settles O32: the difference the other way round and NOT borrow by `writeVxFlag_writes`. -/
theorem subtractReversedSetsNoBorrow : Obligations.SubtractReversedSetsNoBorrow := fun x y =>
  ⟨decodeOfEncode (.subtractVyWithVx x y) rfl, fun s =>
    writeVxFlag_writes s x (s.getV y - s.getV x) (sub_toNat _ _) (flagByte_decide _)⟩

/-- Settles O33: half of the shift source and its bit 0 by `writeVxFlag_writes`. -/
theorem shiftRightSetsBitOut : Obligations.ShiftRightSetsBitOut := fun x y =>
  ⟨decodeOfEncode (.shift1RightVxWithVy x y) rfl, fun s =>
    writeVxFlag_writes s x (shiftSource x y s >>> 1) (shiftRight_one_toNat _) (flagByte_rightBitOut _)⟩

/-- Settles O34: twice the shift source and its bit 7 by `writeVxFlag_writes`. -/
theorem shiftLeftSetsBitOut : Obligations.ShiftLeftSetsBitOut := fun x y =>
  ⟨decodeOfEncode (.shift1LeftVxWithVy x y) rfl, fun s =>
    writeVxFlag_writes s x (shiftSource x y s <<< 1) (shiftLeft_one_toNat _) (flagByte_leftBitOut _)⟩

/-! The instructions without a flag (42 R150 to R155): V[x] is the whole footprint, VF only where it is V[x]. -/

/-- Settles O27: V[x] reads as what was written to it. -/
theorem setRegisterLoadsValue : Obligations.SetRegisterLoadsValue := fun x nn =>
  ⟨decodeOfEncode (.setRegisterWithValue x nn) rfl, fun s => ⟨_, rfl, getV_setV_same s x nn, rfl, frame_setV s x nn⟩⟩

/-- Settles O28: the sum of bytes is the sum of the numbers modulo 256. -/
theorem addValueWrapsWithoutFlag : Obligations.AddValueWrapsWithoutFlag := by
  refine fun x nn => ⟨decodeOfEncode (.addValueToRegister x nn) rfl, fun s => ⟨_, rfl, ?_, rfl, frame_setV s x _⟩⟩
  rw [getV_setV_same, BitVec.toNat_add]

/-- Settles O29: the four operations on bytes are the Boolean ones on their bits. -/
theorem copyAndLogicBitwise : Obligations.CopyAndLogicBitwise := by
  refine fun x y => ⟨decodeOfEncode (.setVxWithVy x y) rfl, decodeOfEncode (.orVxWithVy x y) rfl,
    decodeOfEncode (.andVxWithVy x y) rfl, decodeOfEncode (.xorVxWithVy x y) rfl, fun s =>
    ⟨⟨_, rfl, getV_setV_same s x _, rfl, frame_setV s x _⟩, ⟨_, rfl, rfl, frame_setV s x _, fun b _ => ?or⟩,
      ⟨_, rfl, rfl, frame_setV s x _, fun b _ => ?and⟩, ⟨_, rfl, rfl, frame_setV s x _, fun b _ => ?xor⟩⟩⟩
  case or => rw [getV_setV_same, BitVec.getLsbD_or]
  case and => rw [getV_setV_same, BitVec.getLsbD_and]
  case xor => rw [getV_setV_same, BitVec.getLsbD_xor]

end Sys2Proof.Machine

/-! PROOFS. Index register and memory (spec 43): frames of the changes of I, memory and the register block; digits, sums and addresses
as numbers; then each instruction. -/

namespace Sys2Proof.Machine

/-! Frames: a change of I or of one register widens any frame, stored bytes and loaded registers are footprints of their own. -/

theorem Frame.setIndex {f : Footprint} {s t : State} (h : Frame f s t) (v : Word) :
    Frame { f with index := true } s (t.setIndex v) := { h with index := nofun }

theorem Frame.setV {f : Footprint} {s t : State} (h : Frame f s t) (x : Reg) (v : Byte) :
    Frame { f with regs := x :: f.regs } s (t.setV x v) :=
  { h with
    regs := fun r hr => by
      rw [getV_setV_of_ne t (List.ne_of_not_mem_cons hr), h.regs r (List.not_mem_of_not_mem_cons hr)] }

theorem frame_setIndex (s : State) (v : Word) : Frame { index := true } s (s.setIndex v) := (Frame.refl {} s).setIndex v

theorem frame_writeBytes (s : State) (a : Nat) (bytes : List Byte) :
    Frame { storeBase := a, storeLength := bytes.length } s (s.setMemory (s.memory.writeBytes a bytes)) :=
  { Frame.refl { storeBase := a, storeLength := bytes.length } s with
    memory := fun _ ha => Memory.read_writeBytes_outside s.memory ha }

/-- The registers `V[0]` to `V[x]` after FX65 hold the bytes from I on (43 R185). -/
theorem getV_blockLoaded_of_le {x r : Reg} (h : r.toNat ≤ x.toNat) (s : State) :
    (s.setAllV (blockLoaded x s)).getV r = s.readByte (s.index.toNat + r.toNat) := by
  rw [State.setAllV_getV, blockLoaded_get, if_pos h]

theorem frame_setAllV {s : State} {regs : List Reg} {v : Vector Byte 16} (h : ∀ r ∉ regs, (s.setAllV v).getV r = s.getV r) :
    Frame { regs := regs } s (s.setAllV v) := { Frame.refl { regs := regs } s with regs := h }

theorem frame_blockLoaded (x : Reg) (s : State) : Frame { regs := regsUpTo x } s (s.setAllV (blockLoaded x s)) :=
  frame_setAllV fun r hr => by
    have habove : ¬ r.toNat ≤ x.toNat := mt mem_regsUpTo.mpr hr
    rw [State.setAllV_getV, blockLoaded_get, if_neg habove]

/-! Loading I (43 R180 to R182). -/

/-- Settles O35: the widened address is the address, and only I changes. -/
theorem setIndexLoadsAddress : Obligations.SetIndexLoadsAddress := fun nnn =>
  ⟨decodeOfEncode (.setIndex nnn) rfl, fun s => ⟨_, rfl, absoluteTarget_toNat nnn, rfl, frame_setIndex s _⟩⟩

theorem indexOverflow_iff (cfg : Config) (sum : Nat) :
    indexOverflow cfg sum = true ↔
      cfg.addToIndexStoresOverflow = true ∧ (sum > 0x1000 ∨ (sum = 0x1000 ∧ cfg.addiOvfAt1000 = true)) := by
  simp [indexOverflow]

/-- Settles O36: VF is written with 1 on an overflow and else with what it held, so it keeps its value. -/
theorem addToIndexOverflow : Obligations.AddToIndexOverflow := by
  refine fun x => ⟨decodeOfEncode (.addToIndex x) rfl, fun s => ⟨_, rfl, BitVec.toNat_ofNat _ 16, ?_, rfl, ?_⟩⟩
  · rw [getV_setV_same]
    exact if_congr (indexOverflow_iff s.cfg (indexSum x s)) rfl rfl
  · exact (frame_setIndex s _).setV vf _

/-- The last glyph starts at 0x9B, so the address of a glyph does not wrap (43 R182). -/
theorem glyphAddress_toNat (v : Byte) : (glyphAddress v).toNat = 0x050 + 5 * (v.toNat % 16) := by
  rw [glyphAddress, BitVec.toNat_ofNat, BitVec.extractLsb'_toNat, Nat.shiftRight_zero, fontBase, glyphBytes]
  omega

/-- Settles O37: the glyph's address by `glyphAddress_toNat`, and only I changes. -/
theorem characterAddress : Obligations.CharacterAddress := fun x =>
  ⟨decodeOfEncode (.setIndexToCharacter x) rfl, fun s => ⟨_, rfl, glyphAddress_toNat (s.getV x), rfl, frame_setIndex s _⟩⟩

/-! Storing and loading at I (43 R183 to R185): each by whether the last address is inside memory (20 R56). -/

section

variable {s : State} {x : Reg}

theorem exec_storeBcd_of_le (h : s.index.toNat + 2 ≤ 0xFFF) :
    exec (.storeBcd x) s = .next (s.setMemory (s.memory.writeBytes s.index.toNat (bcdDigits (s.getV x)))) :=
  storeAtIndex_ok id (Nat.succ_le_succ h)

theorem exec_storeBcd_of_gt (h : 0xFFF < s.index.toNat + 2) :
    exec (.storeBcd x) s = .fault (.memoryOutOfRange (max s.index.toNat 0x1000) s) :=
  storeAtIndex_out id (List.cons_ne_nil _ _) (by rw [bcdDigits_length]; omega)

theorem exec_storeRegisters_of_le (h : s.index.toNat + x.toNat ≤ 0xFFF) :
    exec (.storeRegisters x) s =
      .next ((s.setMemory (s.memory.writeBytes s.index.toNat (blockBytes x s))).setIndex (indexAfterBlock x s)) :=
  storeAtIndex_ok (s := s) (·.setIndex (indexAfterBlock x s)) (by rw [blockBytes_length]; omega)

theorem exec_storeRegisters_of_gt (h : 0xFFF < s.index.toNat + x.toNat) :
    exec (.storeRegisters x) s = .fault (.memoryOutOfRange (max s.index.toNat 0x1000) s) :=
  storeAtIndex_out (·.setIndex (indexAfterBlock x s)) (List.ne_nil_of_length_eq_add_one (blockBytes_length x s))
    (by rw [blockBytes_length]; omega)

theorem exec_loadRegisters_of_le (h : s.index.toNat + x.toNat ≤ 0xFFF) :
    exec (.loadRegisters x) s = .next ((s.setAllV (blockLoaded x s)).setIndex (indexAfterBlock x s)) :=
  guardAccess_ok (.inr (Nat.succ_le_succ h)) s _

theorem exec_loadRegisters_of_gt (h : 0xFFF < s.index.toNat + x.toNat) :
    exec (.loadRegisters x) s = .fault (.memoryOutOfRange (max s.index.toNat 0x1000) s) :=
  guardAccess_out (by rw [dataBase, blockLength]; omega) s _

/-- A block inside memory ends at 0x1000 at most, so I does not wrap when it advances over it (43 R184, R185). -/
theorem indexAfterBlock_toNat (h : s.index.toNat + x.toNat ≤ 0xFFF) :
    (indexAfterBlock x s).toNat = if s.cfg.storeLoadModifiesI then s.index.toNat + x.toNat + 1 else s.index.toNat := by
  rw [indexAfterBlock, apply_ite BitVec.toNat, BitVec.toNat_add, BitVec.toNat_ofNat, blockLength]
  congr 1
  omega

end

/-- A byte read where one of the bytes was written (43 R183). -/
theorem read_writeBytes_at (m : Memory) (a : Nat) {bytes : List Byte} {k : Nat} (h : k < bytes.length) :
    (m.writeBytes a bytes).read (a + k) = bytes[k] := by
  rw [Memory.read_writeBytes, if_pos (by omega), Nat.add_sub_cancel_left, List.getD_eq_getElem _ _ h]

/-- Settles O38: each of the three digits is read where it was written. -/
theorem bcdStoresDigits : Obligations.BcdStoresDigits := by
  refine fun x => ⟨decodeOfEncode (.storeBcd x) rfl, fun s => ⟨fun h => ?_, exec_storeBcd_of_gt⟩⟩
  have digit {k : Nat} (hk : k < 3) := read_writeBytes_at s.memory s.index.toNat (bytes := bcdDigits (s.getV x)) hk
  refine ⟨_, exec_storeBcd_of_le h, ?_, ?_, ?_, rfl, frame_writeBytes s (dataBase s) (bcdDigits (s.getV x))⟩
  · exact congrArg BitVec.toNat (digit (k := 0) (by decide))
  · exact congrArg BitVec.toNat (digit (k := 1) (by decide))
  · exact congrArg BitVec.toNat (digit (k := 2) (by decide))

/-- Settles O39: the stored block by `storeRegisters_readByte`. -/
theorem storeRegistersToMemory : Obligations.StoreRegistersToMemory := by
  refine fun x => ⟨decodeOfEncode (.storeRegisters x) rfl, fun s => ⟨fun h => ?_, exec_storeRegisters_of_gt⟩⟩
  have hexec := exec_storeRegisters_of_le h
  refine ⟨_, hexec, fun r => storeRegisters_readByte hexec, indexAfterBlock_toNat h, rfl, ?_⟩
  rw [← blockBytes_length x s]
  exact (frame_writeBytes s _ _).setIndex _

/-- Settles O40: the loaded block by `getV_blockLoaded_of_le`. -/
theorem loadRegistersFromMemory : Obligations.LoadRegistersFromMemory := by
  refine fun x => ⟨decodeOfEncode (.loadRegisters x) rfl, fun s => ⟨fun h => ?_, exec_loadRegisters_of_gt⟩⟩
  refine ⟨_, exec_loadRegisters_of_le h, fun r hr => ?_, indexAfterBlock_toNat h, ?_, (frame_blockLoaded x s).setIndex _⟩
  · rw [State.setIndex_getV, getV_blockLoaded_of_le hr]
  · rw [State.setIndex_pc, State.setAllV_pc]

end Sys2Proof.Machine

/-! PROOFS. Display (spec 44): what a draw leaves on the screen and in VF, against the pixels its sprite covers; then each
instruction and the read port. -/

namespace Sys2Proof.Machine

/-! Clearing and reading the screen (44 R200, R202). -/

theorem frame_setFramebuffer (s : State) (fb : Framebuffer) : Frame { screen := true } s (s.setFramebuffer fb) :=
  { Frame.refl { screen := true } s with screen := nofun }

/-- Settles O42: every pixel of the cleared framebuffer is 0, and only the framebuffer changes. -/
theorem clearEmptiesScreen : Obligations.ClearEmptiesScreen :=
  ⟨decodeOfEncode .displayClear rfl, fun s => ⟨_, rfl, Framebuffer.pixel_cleared, rfl, frame_setFramebuffer s _⟩⟩

/-- Settles O18: the read port writes the result and nothing else. -/
theorem framebufferReadChangesNothing : Obligations.FramebufferReadChangesNothing := fun s hop =>
  ⟨_, step_of_next hop, rfl, rfl, frame_setResult (beginOperation s) _⟩

/-! Drawing (44 R201): the loops run over the rows and columns of the clipped sprite. -/

/-- The state DXYN leaves when every row it reads is in memory. -/
def drawnState (x y : Reg) (n : Nibble) (s : State) : State :=
  (s.setFramebuffer (drawnCanvas x y n s).fb).setV vf (flagByte (drawnCanvas x y n s).collision)

theorem flagByte_eq_one_iff (b : Bool) : flagByte b = 1#8 ↔ b = true := by cases b <;> decide

theorem flagByte_eq_one_or_zero (b : Bool) : flagByte b = 1#8 ∨ flagByte b = 0#8 := by cases b <;> decide

theorem eq_drawnState_of_exec {x y : Reg} {n : Nibble} {s t : State} (h : exec (.displayDraw x y n) s = .next t) :
    t = drawnState x y n s :=
  (Host.Outcome.next.inj (guardAccess_next h).2).symm

section

variable (x y : Reg) (n : Nibble) (s : State)

theorem exec_displayDraw_of_le (h : spriteRows y n s = 0 ∨ s.index.toNat + spriteRows y n s ≤ 0x1000) :
    exec (.displayDraw x y n) s = .next (drawnState x y n s) := guardAccess_ok h s _

theorem exec_displayDraw_of_gt (h : ¬(spriteRows y n s = 0 ∨ s.index.toNat + spriteRows y n s ≤ 0x1000)) :
    exec (.displayDraw x y n) s = .fault (.memoryOutOfRange (max s.index.toNat 0x1000) s) := guardAccess_out h s _

/-- A sprite starts on the screen, so the drawn rows end at its bottom edge. -/
theorem spriteRow_add_spriteRows_le : spriteRow y s + spriteRows y n s ≤ 32 := by
  rw [spriteRows, spriteRow]
  omega

/-- The covered pixels, in the terms of the loops: `spriteRows` is where the clipping at the bottom edge stands. -/
theorem spriteCovers_eq (r c : Nat) :
    spriteCovers x y n s r c =
      (decide (spriteRow y s ≤ r ∧ r < spriteRow y s + spriteRows y n s ∧ c < 64 ∧ spriteColumn x s ≤ c ∧ c < spriteColumn x s + 8)
        && (s.memory.read (dataBase s + (r - spriteRow y s))).getLsbD (7 - (c - spriteColumn x s))) := by
  refine congrArg₂ and (decide_eq_decide.mpr ?_) rfl
  simp only [spriteRows, spriteRow, spriteColumn]
  omega

/-- Every pixel is the XOR of what it was and the sprite. -/
theorem drawnState_pixel (r c : Nat) :
    (drawnState x y n s).framebuffer.pixel r c = Bool.xor (s.framebuffer.pixel r c) (spriteCovers x y n s r c) := by
  rw [drawnState, State.setV_framebuffer, State.setFramebuffer_framebuffer, drawnCanvas, List.range_eq_range',
    drawRows_pixel _ _ _ _ _ (spriteRow_add_spriteRows_le y n s), spriteCovers_eq]
  rfl

theorem drawnCanvas_collision : (drawnCanvas x y n s).collision = true ↔ spriteCollides x y n s := by
  rw [drawnCanvas, List.range_eq_range', drawRows_collision _ _ _ _ _ (spriteRow_add_spriteRows_le y n s), spriteCollides]
  simp [spriteCovers_eq, and_assoc]

theorem drawnState_getV_vf : (drawnState x y n s).getV vf = flagByte (drawnCanvas x y n s).collision := getV_setV_same _ vf _

theorem drawnState_flag : (drawnState x y n s).getV vf = 1#8 ↔ spriteCollides x y n s := by
  rw [drawnState_getV_vf, flagByte_eq_one_iff, drawnCanvas_collision]

theorem frame_drawnState : Frame { regs := [vf], screen := true } s (drawnState x y n s) :=
  (frame_setFramebuffer s _).setV vf _

/-- The covered pixels depend on the two coordinate registers, I and memory only: a draw leaves them as they are. -/
theorem spriteCovers_drawnState (hx : x ≠ vf) (hy : y ≠ vf) (r c : Nat) :
    spriteCovers x y n (drawnState x y n s) r c = spriteCovers x y n s r c := by
  have frame := frame_drawnState x y n s
  have kept {q : Reg} (hq : q ≠ vf) := frame.regs q (mt List.mem_singleton.mp hq)
  simp only [spriteCovers, kept hx, kept hy, frame.index rfl, frame.memory _ (by simp)]

end

/-- Settles O43: pixels and flag of `drawnState`; both clauses by whether the last row drawn is in memory. -/
theorem drawXorsClippedSprite : Obligations.DrawXorsClippedSprite := by
  refine fun x y n => ⟨decodeOfEncode (.displayDraw x y n) rfl, fun s => ⟨fun hrange => ?_, fun hrows hout => ?_⟩⟩
  · have hfit : spriteRows y n s = 0 ∨ s.index.toNat + spriteRows y n s ≤ 0x1000 := hrange.imp_right Nat.sub_le_iff_le_add.mp
    refine ⟨_, exec_displayDraw_of_le x y n s hfit, fun r c _ _ => drawnState_pixel x y n s r c, ?_, drawnState_flag x y n s, rfl,
      frame_drawnState x y n s⟩
    rw [drawnState_getV_vf]
    exact flagByte_eq_one_or_zero _
  · refine exec_displayDraw_of_gt x y n s (not_or_intro hrows.ne' ?_)
    exact fun hle => absurd hout (Nat.not_lt.mpr (Nat.sub_le_iff_le_add.mpr hle))

/-- Settles O44: both draws toggle the same pixels, so the second undoes the first, and it meets a set pixel exactly where the first
met a clear one. -/
theorem drawTwiceRestoresScreen : Obligations.DrawTwiceRestoresScreen := by
  intro x y n s t u hx hy hfirst hsecond
  obtain rfl := eq_drawnState_of_exec hfirst
  obtain rfl := eq_drawnState_of_exec hsecond
  have covers := spriteCovers_drawnState x y n s hx hy
  constructor
  · refine Framebuffer.eq_of_pixel fun r c => ?_
    rw [drawnState_pixel, drawnState_pixel, covers, Bool.xor_assoc, Bool.xor_self, Bool.xor_false]
  · rw [drawnState_flag, spriteCollides]
    refine exists₂_congr fun r c => ?_
    rw [covers, drawnState_pixel]
    exact and_congr_right fun hcovered => by rw [hcovered, Bool.xor_true, Bool.not_eq_true']

end Sys2Proof.Machine

/-! PROOFS. Random and timers (spec 45): frames of a draw and of the two timers; then each instruction. -/

namespace Sys2Proof.Machine

/-! Frames: a draw widens any frame by the draw counter, each timer is a footprint of its own. -/

theorem Frame.setDraws {f : Footprint} {s t : State} (h : Frame f s t) (n : Nat) :
    Frame { f with draws := true } s (t.setDraws n) := { h with draws := nofun }

theorem frame_setDelay (s : State) (v : Byte) : Frame { delay := true } s (s.setDelay v) :=
  { Frame.refl { delay := true } s with delay := nofun }

theorem frame_setSound (s : State) (v : Byte) : Frame { sound := true } s (s.setSound v) :=
  { Frame.refl { sound := true } s with sound := nofun }

/-- Settles O45: V[x] reads as the masked draw, and a bit the immediate has clear is clear in it whatever the draw is. -/
theorem randomIsMaskedDraw : Obligations.RandomIsMaskedDraw := by
  refine fun x nn => ⟨decodeOfEncode (.random x nn) rfl, fun s => ?_⟩
  have masked : (s.setV x (Config.draw8 s.draws &&& nn)).getV x = Config.draw8 s.draws &&& nn := getV_setV_same s x _
  refine ⟨_, rfl, masked, rfl, fun b hb => ?_, rfl, (frame_setV s x _).setDraws _⟩
  rw [State.setDraws_getV, masked, BitVec.getLsbD_and, hb, Bool.and_false]

/-- Settles O46: each move writes its one target, which then reads as the source. -/
theorem timerMoves : Obligations.TimerMoves := fun x =>
  ⟨decodeOfEncode (.getDelayTimer x) rfl, decodeOfEncode (.setDelayTimer x) rfl, decodeOfEncode (.setSoundTimer x) rfl, fun s =>
    ⟨⟨_, rfl, getV_setV_same s x s.delayTimer, rfl, frame_setV s x _⟩, ⟨_, rfl, rfl, rfl, frame_setDelay s _⟩,
      ⟨_, rfl, rfl, rfl, frame_setSound s _⟩⟩⟩

end Sys2Proof.Machine

/-! PROOFS. Keyboard (spec 46): frames of the changes of a key, the execution state and the request list; the key skips by whether
the key number is valid; a key wait from FX0A over steps and presses to the release. -/

namespace Sys2Proof.Machine

/-! Frames: each change widens the frame of what went before by its own element; the request list is outside every footprint and
changes on both sides. -/

section

variable {f : Footprint} {s t : State} (h : Frame f s t)
include h

theorem Frame.setResult (r : OpResult) : Frame { f with result := true } s (t.setResult r) := { h with result := nofun }

theorem Frame.setXs (xs : ExecState) : Frame { f with xs := true } s (t.setXs xs) := { h with xs := nofun }

theorem Frame.setRequests (ops : List Operation) : Frame f (s.setRequests ops) (t.setRequests ops) := { h with requests := rfl }

theorem Frame.setKey {ks : List Nibble} {k : Nibble} (hk : k ∈ ks) (hks : f.keys ⊆ ks) (b : Bool) :
    Frame { f with keys := ks } s (t.setKey k b) :=
  { h with
    keys := fun q hq => by
      have hne : q ≠ k := fun hqk => hq (hqk ▸ hk)
      rw [State.setKey_getKey, if_neg hne, h.keys q (mt (@hks q) hq)] }

end

/-! The key skips (46 R240, R241). -/

section

variable {s : State} {x : Reg} {k : Nibble}

/-- A register whose whole value is a key's number is valid and names that key. -/
theorem keyValid_and_keyOf {v : Byte} (hv : v.toNat = k.toNat) : keyValid v = true ∧ keyOf v = k := by
  have hle : v.toNat ≤ 15 := by have := k.isLt; omega
  exact ⟨(keyValid_iff v).mpr hle, BitVec.eq_of_toNat_eq ((keyOf_toNat hle).trans hv)⟩

theorem not_keyValid {v : Byte} (hv : 15 < v.toNat) : ¬ keyValid v = true :=
  mt (keyValid_iff v).mp (Nat.not_le.mpr hv)

theorem exec_skipIfKeyPressed_of_key (hk : (s.getV x).toNat = k.toNat) :
    exec (.skipIfKeyPressed x) s = skipIf (s.getKey k) s := by
  obtain ⟨hvalid, hkey⟩ := keyValid_and_keyOf hk
  rw [exec, execSkipIfKeyPressed, if_pos hvalid, hkey]

theorem exec_skipIfKeyNotPressed_of_key (hk : (s.getV x).toNat = k.toNat) :
    exec (.skipIfKeyNotPressed x) s = skipIf (!s.getKey k) s := by
  obtain ⟨hvalid, hkey⟩ := keyValid_and_keyOf hk
  rw [exec, execSkipIfKeyNotPressed, if_pos hvalid, hkey]

/-- Above 15 neither skip looks at a key: both report the whole value (60 R263). -/
theorem exec_keySkip_of_gt {i : Instr} (hi : i = .skipIfKeyPressed x ∨ i = .skipIfKeyNotPressed x)
    (hv : 15 < (s.getV x).toNat) : exec i s = raise (.invalidKey (s.getV x)) s := by
  rcases hi with rfl | rfl
  · exact if_neg (not_keyValid hv)
  · exact if_neg (not_keyValid hv)

/-- Settles O47: by whether V[x] is a key's number; the skips' conditions are the key's flag and its negation. -/
theorem keySkips : Obligations.KeySkips := by
  refine fun x => ⟨decodeOfEncode (.skipIfKeyPressed x) rfl, decodeOfEncode (.skipIfKeyNotPressed x) rfl, fun s =>
    ⟨fun k hk => ⟨?_, ?_⟩, fun hv i hi => ?_⟩⟩
  · exact ⟨_, exec_skipIfKeyPressed_of_key hk, rfl, frame_setPc s _⟩
  · exact ⟨_, exec_skipIfKeyNotPressed_of_key hk, by cases s.getKey k <;> rfl, frame_setPc s _⟩
  · rw [exec_keySkip_of_gt hi hv]
    exact raise_reports s _

end

/-! The key wait (46 R242; 60 R274, R275). -/

/-- Settles O48: only the execution state is written. -/
theorem waitForKeyBegins : Obligations.WaitForKeyBegins := fun x =>
  ⟨decodeOfEncode (.waitForKey x) rfl, fun s => ⟨_, rfl, rfl, rfl, (Frame.refl {} s).setXs _⟩⟩

/-- The state `u` stands in a key wait for register `x` that began with the FX0A at `s`'s pc, and `ks` are the keys pressed since. -/
structure KeyWait (x : Reg) (ks : List Nibble) (s u : State) : Prop where
  xs : u.xs = .waitingForKey x
  pc : u.pc = s.pc + 2#16
  pressed : ∀ j ∈ ks, u.getKey j = true
  frame : Frame { keys := ks, xs := true, result := true } (s.setRequests u.requests) u

/-- The operations that leave a key wait standing: steps and presses (40 R111, 60 R274). -/
def Operation.Quiet (op : Operation) : Prop := op = .stepInstruction ∨ ∃ j : Byte, op = .pressKey j

theorem pressedKeys_nil : pressedKeys [] = [] := rfl

theorem pressedKeys_stepInstruction : pressedKeys [.stepInstruction] = [] := rfl

theorem pressedKeys_append (ops ops' : List Operation) : pressedKeys (ops ++ ops') = pressedKeys ops ++ pressedKeys ops' :=
  List.filterMap_append

theorem pressedKeys_pressKey_of_le {j : Byte} (hj : j.toNat ≤ 15) : pressedKeys [.pressKey j] = [keyOf j] := by
  simp [pressedKeys, keyOf, hj]

theorem pressedKeys_pressKey_of_gt {j : Byte} (hj : 15 < j.toNat) : pressedKeys [.pressKey j] = [] := by
  simp [pressedKeys, hj]

theorem pressKey_of_le {j : Byte} (hj : j.toNat ≤ 15) (s : State) : pressKey j s = .next (s.setKey (keyOf j) true) :=
  if_pos ((keyValid_iff j).mpr hj)

theorem pressKey_of_gt {j : Byte} (hj : 15 < j.toNat) (s : State) : pressKey j s = raise (.invalidKey j) s :=
  if_neg (not_keyValid hj)

/-- The release of a valid key during a wait for register `x` (60 R275). -/
theorem releaseKey_waiting {s : State} {x : Reg} {k : Byte} (hk : k.toNat ≤ 15) (hx : s.xs = .waitingForKey x) :
    releaseKey k s = .next (((s.setKey (keyOf k) false).setV x k).setXs .ready) := by
  rw [releaseKey, if_pos ((keyValid_iff k).mpr hk), resolveWait, State.setKey_xs, hx]

section

variable {x : Reg} {k : Byte} {ks : List Nibble} {s u : State} {op : Operation} {ops rest : List Operation}

theorem KeyWait.setRequests_setResult (h : KeyWait x ks s u) (rest : List Operation) (r : OpResult) :
    KeyWait x ks s ((u.setRequests rest).setResult r) :=
  { h with frame := (h.frame.setRequests rest).setResult r }

theorem KeyWait.setKey (h : KeyWait x ks s u) (k : Nibble) : KeyWait x (ks ++ [k]) s (u.setKey k true) where
  xs := h.xs
  pc := h.pc
  pressed j hj := by
    rw [State.setKey_getKey]
    split
    · rfl
    · next hne => exact h.pressed j ((List.mem_append.mp hj).resolve_right (mt List.mem_singleton.mp hne))
  frame := h.frame.setKey List.mem_concat_self (List.subset_append_left ks [k]) true

/-- The step on an FX0A begins the wait, with no key pressed since. -/
theorem keyWait_of_step (hx : s.xs = .ready) (hp : s.pc.toNat ≤ 0xFFE)
    (hw : s.readWord s.pc.toNat = encode (.waitForKey x)) (hr : s.requests = .stepInstruction :: rest) :
    ∃ u, step s = .next u ∧ u.requests = rest ∧ KeyWait x [] s u := by
  have hd : decode (s.readWord s.pc.toNat) = .ok (.waitForKey x) := by rw [hw, decodeOfEncode (.waitForKey x) rfl]
  refine ⟨_, step_run (nextOperation_of_request hr) hx hp hd, ?_, rfl, rfl, nofun, ?_⟩
  · exact congrArg List.tail hr
  · rw [beginOperation_of_request hr]
    exact (((Frame.refl {} (s.setRequests rest)).setResult .ok).setPc _).setXs _

/-- A quiet operation keeps the wait standing and adds the key it presses, if it presses one. -/
theorem KeyWait.step_quiet (h : KeyWait x ks s u) (hop : op.Quiet) (hr : u.requests = op :: rest) :
    ∃ w, step u = .next w ∧ w.requests = rest ∧ KeyWait x (ks ++ pressedKeys [op]) s w := by
  have begun := h.setRequests_setResult rest .ok
  rw [step_of_request hr, beginOperation_of_request hr]
  rcases hop with rfl | ⟨j, rfl⟩
  · exact ⟨_, stepInstruction_waiting begun.xs, rfl, by rwa [pressedKeys_stepInstruction, List.append_nil]⟩
  · rcases Nat.lt_or_ge 15 j.toNat with hj | hj
    · rw [pressedKeys_pressKey_of_gt hj, List.append_nil]
      exact ⟨_, pressKey_of_gt hj _, rfl, h.setRequests_setResult rest _⟩
    · rw [pressedKeys_pressKey_of_le hj]
      exact ⟨_, pressKey_of_le hj _, rfl, begun.setKey (keyOf j)⟩

/-- So does any number of quiet operations, by induction on their list. -/
theorem KeyWait.run_quiet (h : KeyWait x ks s u) (hops : ∀ op ∈ ops, op.Quiet) (hr : u.requests = ops ++ rest) :
    ∃ w : State, core.run ops.length u = .next w ∧ w.requests = rest ∧ KeyWait x (ks ++ pressedKeys ops) s w := by
  induction ops generalizing u ks with
  | nil => exact ⟨u, rfl, hr, by rwa [pressedKeys_nil, List.append_nil]⟩
  | cons op ops ih =>
    obtain ⟨hop, hops⟩ := List.forall_mem_cons.mp hops
    obtain ⟨v, hstep, hv, hwait⟩ := h.step_quiet hop hr
    obtain ⟨w, hrun, hw, hwait⟩ := ih hwait hops hv
    rw [List.append_assoc, ← pressedKeys_append] at hwait
    exact ⟨w, (run_succ hstep).trans hrun, hw, hwait⟩

/-- The state the release of `k` leaves a wait for register `x` in: begun, with no request left, the key cleared and delivered. -/
def released (x : Reg) (k : Byte) (u : State) : State :=
  ((((u.setRequests []).setResult .ok).setKey (keyOf k) false).setV x k).setXs .ready

theorem KeyWait.step_releaseKey (h : KeyWait x ks s u) (hk : k.toNat ≤ 15) (hr : u.requests = [.releaseKey k]) :
    step u = .next (released x k u) := by
  rw [step_of_request hr, beginOperation_of_request hr]
  exact releaseKey_waiting hk h.xs

theorem released_getKey (q : Nibble) : (released x k u).getKey q = if q = keyOf k then false else u.getKey q :=
  State.setKey_getKey _ (keyOf k) false q

/-- Over the whole wait the execution state is back at Ready, so it leaves the footprint. -/
theorem KeyWait.frame_released (h : KeyWait x ks s u) (hx : s.xs = .ready) :
    Frame { regs := [x], keys := keyOf k :: ks, result := true } (s.setRequests []) (released x k u) :=
  have cleared := ((h.frame.setRequests []).setResult .ok).setKey List.mem_cons_self (List.subset_cons_self (keyOf k) ks) false
  { (cleared.setV x k).setXs .ready with xs := fun _ => hx.symm }

end

/-- Settles O49: FX0A begins the wait, the quiet operations keep it by induction, and the release resolves it. -/
theorem keyWaitDeliversReleasedKey : Obligations.KeyWaitDeliversReleasedKey := by
  intro x k quiet s hk hx hp hw hquiet hr
  obtain ⟨v, hbegin, hv, hwait⟩ := keyWait_of_step hx hp hw hr
  obtain ⟨u, hrun, hu, hwait⟩ := hwait.run_quiet hquiet hv
  rw [List.nil_append] at hwait
  have hwhole : core.run (quiet.length + 1) s = .next u := (run_succ hbegin).trans hrun
  refine ⟨⟨u, hwhole, hwait.xs, hwait.pc, hwait.pressed, hu ▸ hwait.frame⟩, released x k u, ?_, ?_, rfl, hwait.pc, rfl, ?_, ?_, ?_⟩
  · exact (run_add 1 hwhole).trans (run_succ (n := 0) (hwait.step_releaseKey hk hu))
  · exact getV_setV_same _ x k
  · intro j hj
    have hsame : j = keyOf k := BitVec.eq_of_toNat_eq (hj.trans (keyOf_toNat hk).symm)
    rw [released_getKey, if_pos hsame]
  · intro j hj hne
    have hother : j ≠ keyOf k := fun h => hne (h ▸ keyOf_toNat hk)
    rw [released_getKey, if_neg hother, hwait.pressed j hj]
  · exact hwait.frame_released hx

end Sys2Proof.Machine

/-! PROOFS. Exceptions (spec 60): which error an instruction can report and which can stop the machine; an unknown word; the timers;
the keys and what ends a key wait. -/

namespace Sys2Proof.Machine

/-! Errors of instructions (60 R268, R270, R271). -/

theorem guardAccess_next_or_fault (a n : Nat) (s t : State) :
    guardAccess a n s (.next t) = .next t ∨ guardAccess a n s (.next t) = .fault (.memoryOutOfRange (max a 0x1000) s) :=
  (em (n = 0 ∨ a + n ≤ 0x1000)).imp (guardAccess_ok · s _) (guardAccess_out · s _)

/-- A guarded access ends in a next state or stops at an address outside memory, with the state unchanged: what the four accessors
share (60 R265, R271). -/
theorem next_or_fault_of_guardAccess {i : Instr} (hi : MayFault i) {a n : Nat} {s t : State} {answer : Answer}
    (h : answer = guardAccess a n s (.next t)) :
    (∃ t, answer = .next t) ∨ ∃ a, 0x1000 ≤ a ∧ MayFault i ∧ answer = .fault (.memoryOutOfRange a s) := by
  rcases guardAccess_next_or_fault a n s t with hgo | hstop
  · exact .inl ⟨t, h.trans hgo⟩
  · exact .inr ⟨_, le_max_right a 0x1000, hi, h.trans hstop⟩

/-- An instruction answers a next state, or is one of the four accessors and stops outside memory; none is refused. -/
theorem exec_next_or_fault (i : Instr) (s : State) :
    (∃ t, exec i s = .next t) ∨ ∃ a, 0x1000 ≤ a ∧ MayFault i ∧ exec i s = .fault (.memoryOutOfRange a s) := by
  cases i with
  | displayDraw x y n => exact next_or_fault_of_guardAccess (.inl ⟨x, y, n, rfl⟩) rfl
  | storeBcd x => exact next_or_fault_of_guardAccess (.inr ⟨x, .inl rfl⟩) rfl
  | storeRegisters x => exact next_or_fault_of_guardAccess (.inr ⟨x, .inr (.inl rfl)⟩) rfl
  | loadRegisters x => exact next_or_fault_of_guardAccess (.inr ⟨x, .inr (.inr rfl)⟩) rfl
  | subroutineReturn => rw [exec, execSubroutineReturn]; split <;> exact .inl ⟨_, rfl⟩
  | subroutineCall nnn => rw [exec, execSubroutineCall]; split <;> exact .inl ⟨_, rfl⟩
  | skipIfKeyPressed x => rw [exec, execSkipIfKeyPressed]; split <;> exact .inl ⟨_, rfl⟩
  | skipIfKeyNotPressed x => rw [exec, execSkipIfKeyNotPressed]; split <;> exact .inl ⟨_, rfl⟩
  | _ => exact .inl ⟨_, rfl⟩

/-- Of the kinds of change an instruction can make only a report writes the result. -/
theorem ExecEffect.result_eq_or_report {s t : State} {i : Instr} (h : ExecEffect s i t) :
    t.result = s.result ∨ ∃ e, MayReport i s e ∧ t = s.setResult (.error e) := by
  cases h with
  | report h => exact .inr ⟨_, h, rfl⟩
  | _ => exact .inl rfl

/-- Settles O60: an instruction stops or answers a next state, and there the result is written by a report alone. -/
theorem errorsByInstruction : Obligations.ErrorsByInstruction := by
  intro i s
  rcases exec_next_or_fault i s with ⟨t, hnext⟩ | hstop
  · rcases (exec_effect hnext).result_eq_or_report with hresult | ⟨e, hreport, rfl⟩
    · exact .inl ⟨t, hnext, hresult⟩
    · exact .inr (.inl ⟨e, hreport, hnext⟩)
  · exact .inr (.inr hstop)

/-- Settles O8: beginning the operation leaves xs, pc and memory alone, so the word that is reported is the one at pc. -/
theorem unknownWordIsReported : Obligations.UnknownWordIsReported := by
  rintro s _ hop hx hp rfl hd
  have hreport := stepInstruction_unknown (s := beginOperation s) hx hp hd
  exact ⟨_, (step_of_next hop).trans hreport, rfl, rfl, (frame_setPc (beginOperation s) _).setResult _⟩

/-! The timers (60 R276). -/

theorem Frame.setSound {f : Footprint} {s t : State} (h : Frame f s t) (v : Byte) :
    Frame { f with sound := true } s (t.setSound v) := { h with sound := nofun }

/-- Settles O10: each timer goes through `countdown`, whose value is that of the truncated subtraction. -/
theorem tickCountsDown : Obligations.TickCountsDown := by
  intro s hop
  have counted (v : Byte) : (countdown v).toNat = if v.toNat > 0 then v.toNat - 1 else 0 := by
    rw [countdown_toNat]
    split <;> omega
  exact ⟨_, step_of_next hop, counted s.delayTimer, counted s.soundTimer, rfl, rfl, rfl,
    (frame_setDelay (beginOperation s) _).setSound _⟩

/-- The machine after one tick, whatever is requested next. -/
def ticked (s : State) : State :=
  ((s.setResult .ok).setDelay (countdown s.delayTimer)).setSound (countdown s.soundTimer)

theorem step_tickTimer (s : State) (rest : List Operation) :
    step (s.setRequests (.tickTimer :: rest)) = .next ((ticked s).setRequests rest) := rfl

theorem countdown_toNat_sub (v : Byte) (n : Nat) : (countdown v).toNat - n = v.toNat - (n + 1) := by
  rw [countdown_toNat, Nat.sub_sub, Nat.add_comm]

/-- Settles O11: by induction on the number of ticks, each of which takes one off. -/
theorem manyTicksStopAtZero : Obligations.ManyTicksStopAtZero := by
  intro n
  induction n with
  | zero => exact fun s => ⟨s.setRequests [], rfl, rfl, rfl⟩
  | succ n ih =>
    intro s
    obtain ⟨t, hrun, hdelay, hsound⟩ := ih (ticked s)
    refine ⟨t, (run_succ (step_tickTimer s _)).trans hrun, ?_, ?_⟩
    · exact hdelay.trans (countdown_toNat_sub s.delayTimer n)
    · exact hsound.trans (countdown_toNat_sub s.soundTimer n)

/-! The keys (60 R274, R275, R263): each operation by whether the key is valid. -/

section

variable {s : State} {k : Byte}

theorem releaseKey_ready (hk : k.toNat ≤ 15) (hx : s.xs = .ready) :
    releaseKey k s = .next (s.setKey (keyOf k) false) := by
  rw [releaseKey, if_pos ((keyValid_iff k).mpr hk), resolveWait, State.setKey_xs, hx]

theorem releaseKey_of_gt (hk : 15 < k.toNat) : releaseKey k s = raise (.invalidKey k) s :=
  if_neg (not_keyValid hk)

theorem getKey_setKey_of_toNat {j : Nibble} (hk : k.toNat ≤ 15) (hj : j.toNat = k.toNat) (b : Bool) :
    (s.setKey (keyOf k) b).getKey j = b := by
  have hsame : j = keyOf k := BitVec.eq_of_toNat_eq (hj.trans (keyOf_toNat hk).symm)
  rw [State.setKey_getKey, if_pos hsame]

theorem frame_setKey (s : State) (k : Nibble) (b : Bool) : Frame { keys := [k] } s (s.setKey k b) :=
  (Frame.refl {} s).setKey List.mem_cons_self (List.nil_subset _) b

end

/-- Settles O12: a valid press writes the key's flag, an invalid one reports the key. -/
theorem pressKeySetsFlag : Obligations.PressKeySetsFlag := by
  intro s k hop
  rw [step_of_next hop]
  refine ⟨fun hk => ?_, fun hk => ?_⟩
  · exact ⟨_, pressKey_of_le hk _, fun _ hj => getKey_setKey_of_toNat hk hj true, rfl, rfl, frame_setKey (beginOperation s) _ true⟩
  · rw [perform, pressKey_of_gt hk]
    exact raise_reports (beginOperation s) _

/-- Settles O13: a valid release by the execution state, an invalid one reports the key. -/
theorem releaseKeyResolvesWait : Obligations.ReleaseKeyResolvesWait := by
  intro s k hop
  rw [step_of_next hop]
  have cleared := frame_setKey (beginOperation s) (keyOf k) false
  refine ⟨fun hk hx => ?_, fun r hk hx => ?_, fun hk => ?_⟩
  · exact ⟨_, releaseKey_ready (s := beginOperation s) hk hx, fun _ hj => getKey_setKey_of_toNat hk hj false, rfl, rfl, cleared⟩
  · exact ⟨_, releaseKey_waiting (s := beginOperation s) hk hx, fun _ hj => getKey_setKey_of_toNat hk hj false,
      getV_setV_same _ r k, rfl, rfl, rfl, (cleared.setV r k).setXs .ready⟩
  · rw [perform, releaseKey_of_gt hk]
    exact raise_reports (beginOperation s) _

/-- Resolving a wait, if there is one, leaves the machine Ready (60 R275). -/
theorem resolveWait_xs (k : Byte) (s : State) : (resolveWait k s).xs = .ready := by
  unfold resolveWait
  split
  · next hready => exact hready
  · rfl

/-- Settles O14: a step while waiting does nothing, and of the other operations only the three write the execution state. -/
theorem onlyReleaseOrResetEndsWait : Obligations.OnlyReleaseOrResetEndsWait := by
  intro s t r hx hstep hne
  have hwait : (beginOperation s).xs = .waitingForKey r := hx
  rcases perform_next hstep with
    ⟨-, hstep⟩ | ⟨-, rfl⟩ | ⟨k, -, -, rfl⟩ | ⟨k, hop, hk, rfl⟩ | ⟨rom, hop, hlen, rfl⟩ | ⟨hop, rfl⟩ | ⟨_, rfl⟩
  · rw [stepInstruction_waiting hwait] at hstep
    cases hstep
    exact absurd hwait hne
  · exact absurd hwait hne
  · exact absurd hwait hne
  · exact ⟨resolveWait_xs k _, .inl ⟨k, (keyValid_iff k).mp hk, hop⟩⟩
  · exact ⟨rfl, .inr (.inr ⟨rom, hlen, hop⟩)⟩
  · exact ⟨rfl, .inr (.inl hop)⟩
  · exact absurd hwait hne

end Sys2Proof.Machine

/-! PROOFS. Reset and load (spec 70): what every element reads as after a reset, and a ROM on top of it. -/

namespace Sys2Proof.Machine

/-! Loading (70 R301): by whether the ROM fits. -/

section

variable {rom : List Byte}

theorem loadRom_of_le (h : rom.length ≤ 3584) (s : State) :
    loadRom rom s = .next ((resetState s).setMemory ((resetState s).memory.writeBytes programBase rom)) :=
  if_neg (Nat.not_lt.mpr h)

theorem loadRom_of_gt (h : 3584 < rom.length) (s : State) : loadRom rom s = raise (.romTooLarge rom.length) s := if_pos h

end

/-- Settles O17: each byte of a ROM that fits is read where it was written onto the reset state; the size is checked first. -/
theorem loadPlacesRom : Obligations.LoadPlacesRom := by
  intro s rom hop
  rw [step_of_next hop]
  refine ⟨fun hfit => ?_, fun hlarge => ?_⟩
  · refine ⟨_, _, loadRom_of_le hfit _, rfl, fun j hj => ?_, rfl, rfl, frame_writeBytes (resetState (beginOperation s)) _ rom⟩
    exact (read_writeBytes_at _ 0x200 hj).trans (List.getD_eq_getElem rom 0#8 hj).symm
  · rw [perform, loadRom_of_gt hlarge]
    exact raise_reports (beginOperation s) _

/-! The reset values (70 R300, 10 R33). -/

theorem font_length : font.length = 80 := rfl

/-- Past the font's 80 bytes its list reads as 0, so the font region's upper bound may be left unsaid (20 R52). -/
theorem resetByte_eq (a : Nat) : resetByte a = if 0x050 ≤ a ∧ a ≤ 0x09F then font.getD (a - 0x050) 0#8 else 0#8 := by
  rw [resetByte, fontBase, ite_and]
  split
  · split
    · rfl
    · next habove =>
      have hpast : font.length ≤ a - 0x050 := by rw [font_length]; omega
      exact List.getD_eq_default font 0#8 hpast
  · rfl

theorem resetState_getV (s : State) (r : Reg) : (resetState s).getV r = 0#8 := Vector.getElem_replicate r.isLt

theorem resetState_getKey (s : State) (k : Nibble) : (resetState s).getKey k = false := Vector.getElem_replicate k.isLt

/-- Settles O15: the constructed machine is a reset state itself, so one set of values serves for both. -/
theorem resetLeavesResetValues : Obligations.ResetLeavesResetValues := by
  intro s hop
  refine ⟨_, step_of_next hop, rfl, rfl, fun u hu => ?_⟩
  obtain ⟨v, rfl⟩ : ∃ v, u = resetState v := hu.elim (⟨_, ·⟩) (⟨State.reset, ·⟩)
  exact ⟨fun a _ => resetByte_eq a, Framebuffer.pixel_cleared, rfl, resetState_getV v, rfl, rfl, rfl, rfl, resetState_getKey v, rfl⟩

/-! Completeness of reset (70 R302, R303). -/

theorem resetState_congr {s u : State} (hcfg : s.cfg = u.cfg) (hdraws : s.draws = u.draws) (hrequests : s.requests = u.requests)
    (harrivals : s.arrivals = u.arrivals) (hresult : s.result = u.result) : resetState s = resetState u := by
  rw [resetState, hcfg, hdraws, hrequests, harrivals, hresult, ← resetState]

theorem perform_load_nil (s : State) : perform (.load []) s = perform .reset s := loadRom_of_le (Nat.zero_le _) s

/-- Settles O16: a reset keeps the five fields that `resetState_congr` compares and no other, and a load keeps them too. -/
theorem resetIsComplete : Obligations.ResetIsComplete := by
  refine ⟨fun _ => rfl, fun s u hcfg hdraws hrequests harrivals hresult => ?_, perform_load_nil, fun s t h => ?_,
    fun rom s t hfit h => ?_⟩
  · exact congrArg Host.Outcome.next (resetState_congr hcfg hdraws hrequests harrivals hresult)
  · cases h
    rfl
  · cases (loadRom_of_le hfit s).symm.trans h
    rw [perform_load_nil]
    rfl

end Sys2Proof.Machine
